-- ==== Sys2Proof/Word.lean ====
section
/-!
DEFINITION. The words of the host interface (R16, R87, R100): unsigned bit vectors, bit 0 the least significant.
-/

namespace Sys2Proof

/-- A register's 32 bits (R10, R36, R87). -/
abbrev Word := BitVec 32

/-- The 8 bits of a UART byte or of a pin number (R33). -/
abbrev Byte := BitVec 8

/-- A byte offset in the register window (R80). -/
abbrev Offset := BitVec 8

/-- A host transaction T, 41 bits (R100). -/
abbrev Trans := BitVec 41

end Sys2Proof
end

