-- ==== Sys2Proof/Syntax.lean ====
section
/-!
DEFINITION. The transactions of the opcode map (R106), one constructor per row, the names of the registers (R36) and
the causes of a BusError (R262).
-/

namespace Sys2Proof

/-- One host transaction that is no BusError: the 29 rows of R106. A write carries DATA; a read carries nothing, since
R100 has a read ignore DATA. -/
inductive Instr where
  /-- CMD ARM (R190). -/
  | cmdArm
  /-- CMD DISARM (R194). -/
  | cmdDisarm
  /-- CMD EXECUTE (R195). -/
  | cmdExecute
  /-- CMD RESET (R199). -/
  | cmdReset
  /-- CMD POLL (R202). -/
  | cmdPoll
  /-- CMD ILLEGAL (R204): a command word that is none of the five. -/
  | cmdIllegal (data : Word)
  /-- RD CMD (R241). -/
  | rdCmd
  /-- RD STATUS (R239). -/
  | rdStatus
  /-- WR PAUSE (R221). -/
  | wrPause (v : Word)
  /-- RD PAUSE (R222). -/
  | rdPause
  /-- WR WIDTH (R223). -/
  | wrWidth (v : Word)
  /-- RD WIDTH (R224). -/
  | rdWidth
  /-- WR GAP (R225). -/
  | wrGap (v : Word)
  /-- RD GAP (R226). -/
  | rdGap
  /-- WR COUNT (R227). -/
  | wrCount (v : Word)
  /-- RD COUNT (R228). -/
  | rdCount
  /-- WR TRIGKIND (R229). -/
  | wrTrigkind (v : Word)
  /-- RD TRIGKIND (R230). -/
  | rdTrigkind
  /-- WR TRIGPIN (R231). -/
  | wrTrigpin (v : Word)
  /-- RD TRIGPIN (R232). -/
  | rdTrigpin
  /-- WR TRIGBYTE (R233). -/
  | wrTrigbyte (v : Word)
  /-- RD TRIGBYTE (R234). -/
  | rdTrigbyte
  /-- RD GCOUNT (R240). -/
  | rdGcount
  /-- WR FLAGS (R243). -/
  | wrFlags (v : Word)
  /-- RD FLAGS (R242). -/
  | rdFlags
  /-- WR OUTCTL (R237). -/
  | wrOutctl (v : Word)
  /-- RD OUTCTL (R238). -/
  | rdOutctl
  /-- WR UARTDIV (R235). -/
  | wrUartdiv (v : Word)
  /-- RD UARTDIV (R236). -/
  | rdUartdiv
deriving DecidableEq, Repr

/-- The host-visible registers (R36). -/
inductive Reg where
  | cmd | status | pause | width | gap | count | trigkind | trigpin | trigbyte | gcount | flags | outctl | uartdiv
deriving DecidableEq, Repr

/-- Why a transaction raises BusError: the three causes of R262. -/
inductive BusCause where
  /-- The access was not 32 bits wide (R82). -/
  | wrongWidth (bits : Nat)
  /-- The offset names no register (R83, R84). -/
  | unmapped (offset : Offset)
  /-- A write to STATUS or GCOUNT (R85). -/
  | readOnly (offset : Offset)
deriving DecidableEq, Repr

end Sys2Proof
end

