-- ==== Sys2Proof/Decode.lean ====
section
/-!
DEFINITION. From the 41 bits of a transaction to an instruction, and back: R100 to R107.
-/

namespace Sys2Proof

/-- WE, bit 40 of T: 1 is a write (R100). -/
def Trans.we (T : Trans) : Bool := T.getLsbD 40

/-- ADDR, T[39:32] (R100). -/
def Trans.addr (T : Trans) : Offset := T.extractLsb' 32 8

/-- DATA, T[31:0] (R100). -/
def Trans.data (T : Trans) : Word := T.extractLsb' 0 32

/-- T with WE, ADDR and DATA in their places (R100). -/
def mkTrans (we : Bool) (addr : Offset) (data : Word) : Trans :=
  BitVec.ofBool we ++ addr ++ data

/-- The byte offset of a register (R36). -/
def Reg.offset : Reg → Offset
  | .cmd => 0x00
  | .status => 0x04
  | .pause => 0x08
  | .width => 0x0C
  | .gap => 0x10
  | .count => 0x14
  | .trigkind => 0x18
  | .trigpin => 0x1C
  | .trigbyte => 0x20
  | .gcount => 0x24
  | .flags => 0x28
  | .outctl => 0x2C
  | .uartdiv => 0x30

/-- The name of a register (R36). -/
def Reg.name : Reg → String
  | .cmd => "CMD"
  | .status => "STATUS"
  | .pause => "PAUSE"
  | .width => "WIDTH"
  | .gap => "GAP"
  | .count => "COUNT"
  | .trigkind => "TRIGKIND"
  | .trigpin => "TRIGPIN"
  | .trigbyte => "TRIGBYTE"
  | .gcount => "GCOUNT"
  | .flags => "FLAGS"
  | .outctl => "OUTCTL"
  | .uartdiv => "UARTDIV"

/-- The registers of the map, in the order of their offsets (R36). -/
def Reg.all : List Reg :=
  [.cmd, .status, .pause, .width, .gap, .count, .trigkind, .trigpin, .trigbyte, .gcount, .flags, .outctl, .uartdiv]

/-- The register at an offset; none where the offset is unmapped (R36, R83). -/
def Reg.ofOffset (a : Offset) : Option Reg := Reg.all.find? (fun r => Reg.offset r == a)

/-- The command a write of `data` to CMD carries (R104, R105). -/
def decodeCommand (data : Word) : Instr :=
  if data = 1 then .cmdArm
  else if data = 2 then .cmdDisarm
  else if data = 3 then .cmdExecute
  else if data = 4 then .cmdReset
  else if data = 5 then .cmdPoll
  else .cmdIllegal data

/-- A write to a mapped register; STATUS and GCOUNT are read-only (R85, R101 steps 2 to 4). -/
def decodeWrite (r : Reg) (data : Word) : Except BusCause Instr :=
  match r with
  | .cmd => .ok (decodeCommand data)
  | .status => .error (.readOnly (Reg.offset .status))
  | .pause => .ok (.wrPause data)
  | .width => .ok (.wrWidth data)
  | .gap => .ok (.wrGap data)
  | .count => .ok (.wrCount data)
  | .trigkind => .ok (.wrTrigkind data)
  | .trigpin => .ok (.wrTrigpin data)
  | .trigbyte => .ok (.wrTrigbyte data)
  | .gcount => .error (.readOnly (Reg.offset .gcount))
  | .flags => .ok (.wrFlags data)
  | .outctl => .ok (.wrOutctl data)
  | .uartdiv => .ok (.wrUartdiv data)

/-- A read of a mapped register (R101 step 4). -/
def decodeRead : Reg → Instr
  | .cmd => .rdCmd
  | .status => .rdStatus
  | .pause => .rdPause
  | .width => .rdWidth
  | .gap => .rdGap
  | .count => .rdCount
  | .trigkind => .rdTrigkind
  | .trigpin => .rdTrigpin
  | .trigbyte => .rdTrigbyte
  | .gcount => .rdGcount
  | .flags => .rdFlags
  | .outctl => .rdOutctl
  | .uartdiv => .rdUartdiv

/-- Decoding, total on every T, in the order of R101: unmapped offsets, writes to read-only registers, command words,
register accesses. -/
def decode (T : Trans) : Except BusCause Instr :=
  match Reg.ofOffset (Trans.addr T) with
  | none => .error (.unmapped (Trans.addr T))
  | some r => if Trans.we T then decodeWrite r (Trans.data T) else .ok (decodeRead r)

/-- Decoding of an access of `bits` bits: one that is not 32 bits wide raises BusError before anything else (R82,
R101). -/
def decodeAccess (bits : Nat) (T : Trans) : Except BusCause Instr :=
  if bits = 32 then decode T else .error (.wrongWidth bits)

/-- The T of an instruction (R100, R104, R106). A read's DATA is "written 0 by convention". -/
def encode : Instr → Trans
  | .cmdArm => mkTrans true 0x00 1
  | .cmdDisarm => mkTrans true 0x00 2
  | .cmdExecute => mkTrans true 0x00 3
  | .cmdReset => mkTrans true 0x00 4
  | .cmdPoll => mkTrans true 0x00 5
  | .cmdIllegal data => mkTrans true 0x00 data
  | .rdCmd => mkTrans false 0x00 0
  | .rdStatus => mkTrans false 0x04 0
  | .wrPause v => mkTrans true 0x08 v
  | .rdPause => mkTrans false 0x08 0
  | .wrWidth v => mkTrans true 0x0C v
  | .rdWidth => mkTrans false 0x0C 0
  | .wrGap v => mkTrans true 0x10 v
  | .rdGap => mkTrans false 0x10 0
  | .wrCount v => mkTrans true 0x14 v
  | .rdCount => mkTrans false 0x14 0
  | .wrTrigkind v => mkTrans true 0x18 v
  | .rdTrigkind => mkTrans false 0x18 0
  | .wrTrigpin v => mkTrans true 0x1C v
  | .rdTrigpin => mkTrans false 0x1C 0
  | .wrTrigbyte v => mkTrans true 0x20 v
  | .rdTrigbyte => mkTrans false 0x20 0
  | .rdGcount => mkTrans false 0x24 0
  | .wrFlags v => mkTrans true 0x28 v
  | .rdFlags => mkTrans false 0x28 0
  | .wrOutctl v => mkTrans true 0x2C v
  | .rdOutctl => mkTrans false 0x2C 0
  | .wrUartdiv v => mkTrans true 0x30 v
  | .rdUartdiv => mkTrans false 0x30 0

/-- The mnemonic of an instruction as R106 writes it. -/
def Instr.mnemonic : Instr → String
  | .cmdArm => "CMD ARM"
  | .cmdDisarm => "CMD DISARM"
  | .cmdExecute => "CMD EXECUTE"
  | .cmdReset => "CMD RESET"
  | .cmdPoll => "CMD POLL"
  | .cmdIllegal _ => "CMD ILLEGAL"
  | .rdCmd => "RD CMD"
  | .rdStatus => "RD STATUS"
  | .wrPause _ => "WR PAUSE"
  | .rdPause => "RD PAUSE"
  | .wrWidth _ => "WR WIDTH"
  | .rdWidth => "RD WIDTH"
  | .wrGap _ => "WR GAP"
  | .rdGap => "RD GAP"
  | .wrCount _ => "WR COUNT"
  | .rdCount => "RD COUNT"
  | .wrTrigkind _ => "WR TRIGKIND"
  | .rdTrigkind => "RD TRIGKIND"
  | .wrTrigpin _ => "WR TRIGPIN"
  | .rdTrigpin => "RD TRIGPIN"
  | .wrTrigbyte _ => "WR TRIGBYTE"
  | .rdTrigbyte => "RD TRIGBYTE"
  | .rdGcount => "RD GCOUNT"
  | .wrFlags _ => "WR FLAGS"
  | .rdFlags => "RD FLAGS"
  | .wrOutctl _ => "WR OUTCTL"
  | .rdOutctl => "RD OUTCTL"
  | .wrUartdiv _ => "WR UARTDIV"
  | .rdUartdiv => "RD UARTDIV"

/-- One row of the opcode map: "a row applies when `(T & mask) = match`" (R106). -/
structure OpcodeRow where
  mnemonic : String
  pattern : Trans
  mask : Trans
deriving DecidableEq, Repr

/-- A row of a command word: all 41 bits are fixed (R106). -/
def OpcodeRow.command (mnemonic : String) (pattern : Trans) : OpcodeRow :=
  ⟨mnemonic, pattern, 0x1FFFFFFFFFF⟩

/-- A row of a register access: WE and ADDR are fixed (R106). -/
def OpcodeRow.access (mnemonic : String) (pattern : Trans) : OpcodeRow :=
  ⟨mnemonic, pattern, 0x1FF00000000⟩

/-- The rows ARM to POLL of the opcode map (R106). -/
def commandRows : List OpcodeRow :=
  [.command "CMD ARM" 0x10000000001, .command "CMD DISARM" 0x10000000002, .command "CMD EXECUTE" 0x10000000003,
   .command "CMD RESET" 0x10000000004, .command "CMD POLL" 0x10000000005]

/-- The ILLEGAL row of the opcode map (R106). -/
def illegalRow : OpcodeRow := .access "CMD ILLEGAL" 0x10000000000

/-- The register rows of the opcode map (R106). -/
def accessRows : List OpcodeRow :=
  [.access "RD CMD" 0x00000000000, .access "RD STATUS" 0x00400000000,
   .access "WR PAUSE" 0x10800000000, .access "RD PAUSE" 0x00800000000,
   .access "WR WIDTH" 0x10C00000000, .access "RD WIDTH" 0x00C00000000,
   .access "WR GAP" 0x11000000000, .access "RD GAP" 0x01000000000,
   .access "WR COUNT" 0x11400000000, .access "RD COUNT" 0x01400000000,
   .access "WR TRIGKIND" 0x11800000000, .access "RD TRIGKIND" 0x01800000000,
   .access "WR TRIGPIN" 0x11C00000000, .access "RD TRIGPIN" 0x01C00000000,
   .access "WR TRIGBYTE" 0x12000000000, .access "RD TRIGBYTE" 0x02000000000,
   .access "RD GCOUNT" 0x02400000000,
   .access "WR FLAGS" 0x12800000000, .access "RD FLAGS" 0x02800000000,
   .access "WR OUTCTL" 0x12C00000000, .access "RD OUTCTL" 0x02C00000000,
   .access "WR UARTDIV" 0x13000000000, .access "RD UARTDIV" 0x03000000000]

/-- A row's match and mask hold of T (R106). -/
def OpcodeRow.applies (row : OpcodeRow) (T : Trans) : Bool :=
  T &&& row.mask == row.pattern

/-- The rows of R106 that apply to T: "the ILLEGAL row applies only when no ARM to POLL row does". -/
def rowsOf (T : Trans) : List OpcodeRow :=
  let commands := commandRows.filter (OpcodeRow.applies · T)
  commands ++ (if commands.isEmpty && illegalRow.applies T then [illegalRow] else []) ++
    accessRows.filter (OpcodeRow.applies · T)

/-- The instruction in a word of `nbits` bits, numbered as the opcode table numbers them. T has 41 bits (R103), so a
word with a bit above them set is no transaction (DESIGN CHOICE, log 13, safe). -/
def decodeTableWord (nbits w : Nat) : Option Instr :=
  let v := w % 2 ^ nbits
  if v < 2 ^ 41 then
    match decode (BitVec.ofNat 41 v) with
    | .ok i => some i
    | .error _ => none
  else none

end Sys2Proof
end

