-- ==== Sys2Proof/Config.lean ====
section
/-!
DEFINITION. The parameters of the model (R9) and its free values. Every one is open in the spec, so each is an opaque
constant: nothing can be proved of it beyond its legal range.
-/

namespace Sys2Proof

/-- The parameters the model takes as arguments (R9). -/
structure Params where
  /-- P_FLOOR, the least effective width and gap (R164). -/
  floor : Nat
  /-- P_DEBOUNCE, the consecutive active samples the GPIO detector needs (R134). -/
  debounce : Nat
  /-- P_NUM_PINS, the number of trigger input lines (R9). -/
  numPins : Nat
  /-- P_UARTDIV_RESET, the reset value of UARTDIV (R61). -/
  uartdivReset : Word
  /-- P_AVAILABLE(GPIO) (R190). -/
  availableGpio : Bool
  /-- P_AVAILABLE(UART) (R190). -/
  availableUart : Bool
  /-- P_CLOCK_HZ, used only to convert cycles to seconds (R307). -/
  clockHz : Nat
deriving DecidableEq, Repr

/-- The legal ranges of R9. -/
def Params.Legal (P : Params) : Prop :=
  3 ≤ P.floor ∧ P.floor ≤ 100 ∧ 1 ≤ P.debounce ∧ P.debounce ≤ 65536 ∧ 1 ≤ P.numPins ∧ P.numPins ≤ 255 ∧
    P.uartdivReset ≠ 0 ∧ 1 ≤ P.clockHz

/-- `n` cycles in seconds: "1 cycle = 1/clock_Hz seconds" (R307). -/
def Params.seconds (P : Params) (n : Nat) : Rat :=
  (n : Rat) / (P.clockHz : Rat)

/-- How far P_FLOOR lies above its least value 3. -/
opaque Config.floorAbove : Fin 98

/-- How far P_DEBOUNCE lies above its least value 1. -/
opaque Config.debounceAbove : Fin 65536

/-- How far P_NUM_PINS lies above its least value 1. -/
opaque Config.numPinsAbove : Fin 255

/-- How far P_UARTDIV_RESET lies above its least value 1. -/
opaque Config.uartdivResetAbove : Fin 4294967295

/-- P_AVAILABLE(GPIO). -/
opaque Config.availableGpio : Bool

/-- P_AVAILABLE(UART). -/
opaque Config.availableUart : Bool

/-- How far P_CLOCK_HZ lies above its least value 1. -/
opaque Config.clockHzAbove : Nat

/-- The parameters of this block: any legal ones (R9). DESIGN CHOICE (log 1), safe: each is an opaque constant. -/
def Config.params : Params where
  floor := 3 + Config.floorAbove.val
  debounce := 1 + Config.debounceAbove.val
  numPins := 1 + Config.numPinsAbove.val
  uartdivReset := BitVec.ofNat 32 (1 + Config.uartdivResetAbove.val)
  availableGpio := Config.availableGpio
  availableUart := Config.availableUart
  clockHz := 1 + Config.clockHzAbove

/-- The levels of the trigger input lines in a cycle past the end of the tape `env`, bit p being `trig_in[p]`: "a draw
of the Environment under no law" (R14). DESIGN CHOICE (log 2), safe. -/
opaque Config.freeTrigIn : Nat → BitVec 256

/-- The level of `uart_rx` in a cycle past the end of the tape `env` (R14). DESIGN CHOICE (log 2), safe. -/
opaque Config.freeUartRx : Nat → Bool

/-- What the k-th pop of StartSequence takes from an empty queue, which no run reaches (R165 "requires PG.st = WAIT, so
Q has 4 words"; R63 item 1). DESIGN CHOICE (log 6), safe. -/
opaque Config.emptyPop : Nat → Word

/-- What `(UD.tc + 1) mod LAT.div` gives for a divider 0, which no run reaches (R63 item 6; R16 defines no remainder by
0). DESIGN CHOICE (log 6), safe. -/
opaque Config.remainderByZero : Word → Word

end Sys2Proof
end

