-- ==== Sys2Proof/Machine/State.lean ====
section
/-!
DEFINITION. The state: the block's own (`Block`, R32), and beside it what stands for the Host, the Environment, the
number of the cycle and the last response on the bus.
-/

namespace Sys2Proof.Machine

/-- A trigger kind, and the detector variant of that kind: CFG.kind (R33) and RESIDENT (R42) both range over these.
KIND = 3 is never held (R55), so it has no constructor (DEDUCED, log 8, safe). -/
inductive Variant where
  | none | gpio | uart
deriving DecidableEq, Repr

/-- A trigger edge (R33): EDGE 0 is rising, 1 is falling. -/
inductive Edge where
  | rising | falling
deriving DecidableEq, Repr

/-- The configuration registers CFG (R33). -/
structure Cfg where
  pause : Word
  width : Word
  gap : Word
  count : Word
  kind : Variant
  pin : Byte
  edge : Edge
  byte : Byte
  uartdiv : Word
  outEn : Bool
  invEn : Bool
deriving DecidableEq, Repr

/-- The states of the pulse generator (R39). -/
inductive PgSt where
  | stopped | wait | pause | high | low
deriving DecidableEq, Repr

/-- The pulse generator's working state PG (R39). -/
structure Pg where
  st : PgSt
  /-- Cycles left in the current phase. -/
  cnt : Word
  /-- Pulses left, the current one included. -/
  reps : Word
  /-- Effective width latched at release. -/
  w : Word
  /-- Effective gap latched at release. -/
  g : Word
deriving DecidableEq, Repr

/-- The states of the GPIO edge detector (R40). -/
inductive GdSt where
  | off | waitIdle | waitActive | qual | done
deriving DecidableEq, Repr

/-- The GPIO edge detector's state GD (R40). -/
structure Gd where
  st : GdSt
  /-- Consecutive active-level samples. -/
  k : BitVec 17
deriving DecidableEq, Repr

/-- The states of the UART byte-match detector (R41). -/
inductive UdSt where
  | off | waitIdle | waitStart | start | data | done
deriving DecidableEq, Repr

/-- The UART byte-match detector's state UD (R41). -/
structure Ud where
  st : UdSt
  /-- Sample-tick divider count. -/
  tc : Word
  /-- Ticks within the current bit. -/
  k : BitVec 4
  /-- Index of the data bit being received. -/
  i : BitVec 3
  /-- Data bits received so far. -/
  sh : Byte
deriving DecidableEq, Repr

/-- The detector parameters LAT copied from CFG at the last successful ARM (R43). -/
structure Lat where
  pin : Byte
  edge : Edge
  byte : Byte
  div : Word
deriving DecidableEq, Repr

/-- The outcome of the most recent command, RESULT (R46, R260). Codes 5 to 7 are never produced (R260), so they have
no constructor (DEDUCED, log 8, safe). -/
inductive ResultCode where
  | ok | errState | errResource | errConfig | errIllegal
deriving DecidableEq, Repr

/-- The complete state `S` of the block (R32). -/
structure Block where
  cfg : Cfg
  armed : Bool
  fired : Bool
  release : Bool
  /-- The parameter queue, head first (R38). -/
  q : List Word
  pg : Pg
  gd : Gd
  ud : Ud
  resident : Variant
  lat : Lat
  gcount : Word
  /-- running, triggered, finished, error: bits 0 to 3 (R45, R59). -/
  aux : BitVec 4
  result : ResultCode
deriving DecidableEq, Repr

/-- The input levels during one cycle (R14): bit p of `trig` is `trig_in[p]`. -/
structure Inputs where
  trig : BitVec 256
  uartRx : Bool
deriving DecidableEq, Repr

/-- One line of the host's program as it reaches the block (R12, R90, R108): a transaction, or one cycle that runs
before the next line. -/
inductive HostLine where
  /-- An access of `bits` bits; the block takes 32 (R82). -/
  | txn (bits : Nat) (T : Trans)
  /-- One cycle of a WAIT. -/
  | wait
deriving DecidableEq, Repr

/-- The response to a transaction (R100). -/
structure Response where
  rdata : Word
  err : Bool
deriving DecidableEq, Repr

/-- The state of the model. `blk` is the spec's S; the rest is the model's own (logs 2 to 5). -/
structure State where
  /-- The block's state (R32). -/
  blk : Block
  /-- What the Host still has to issue, in order (R12, R13); past its end the Host issues nothing. -/
  host : List HostLine
  /-- The levels the Environment gives in the coming cycles (R14); past its end they are free values. -/
  env : List Inputs
  /-- The number of the coming cycle (R12). -/
  cycle : Nat
  /-- The response to the last transaction; none before the first. -/
  resp : Option Response
deriving DecidableEq, Repr

/-- Reasons for which the machine stops with a fault: there are none. "The block never halts" (R15), it has no traps
(R263), and a BusError "does not stop or reset anything" (R262). -/
inductive Fault where
deriving DecidableEq, Repr

/-- Reasons for which a step is refused. -/
inductive Refusal where
  /-- An arm of `exec` for an instruction without a meaning would raise it; every instruction has one, so nothing does.
  Safe. -/
  | notModelled (mnemonic : String)
deriving DecidableEq, Repr

/-- What a meaning answers. -/
abbrev Answer := Host.Outcome State Fault Refusal

/-- CFG after power-on reset (R62), which RESET restores too (R199). -/
def Cfg.reset (P : Params) : Cfg where
  pause := 0
  width := 100
  gap := 100
  count := 1
  kind := .none
  pin := 0xFF
  edge := .rising
  byte := 0
  uartdiv := P.uartdivReset
  outEn := true
  invEn := false

/-- The block after power-on reset (R62). -/
def Block.reset (P : Params) : Block where
  cfg := Cfg.reset P
  armed := false
  fired := false
  release := false
  q := []
  pg := ⟨.stopped, 0, 0, 0, 0⟩
  gd := ⟨.off, 0⟩
  ud := ⟨.off, 0, 0, 0, 0⟩
  resident := .none
  lat := ⟨0xFF, .rising, 0, P.uartdivReset⟩
  gcount := 0
  aux := 0
  result := .ok

/-- The machine right after power-on reset (R62, R290): cycle 0 is next, and no transaction has been issued. -/
def State.reset : State where
  blk := Block.reset Config.params
  host := []
  env := []
  cycle := 0
  resp := none

end Sys2Proof.Machine
end

