-- ==== Sys2Proof/Machine/Operands.lean ====
section
/-!
DEFINITION. The fields of DATA and of RDATA (R49 to R61, R102): what a write takes from DATA, what a read puts
together.
-/

namespace Sys2Proof.Machine

/-- One bit as a 32-bit number, zero-extended (R102). -/
def bitWord (b : Bool) : Word := (BitVec.ofBool b).setWidth 32

/-- The 2-bit code of a trigger kind: None 0, GPIO 1, UART 2 (R42, R55). -/
def Variant.code : Variant → BitVec 2
  | .none => 0
  | .gpio => 1
  | .uart => 2

/-- The trigger kind of a 2-bit code; 3 is reserved (R55). -/
def Variant.ofCode (c : BitVec 2) : Option Variant :=
  if c = 0 then some .none else if c = 1 then some .gpio else if c = 2 then some .uart else Option.none

/-- EDGE: 0 rising, 1 falling (R56). -/
def Edge.code : Edge → Bool
  | .rising => false
  | .falling => true

/-- The edge of an EDGE bit (R56). -/
def Edge.ofCode (b : Bool) : Edge := if b then .falling else .rising

/-- TRIGKIND.KIND as a write takes it: v[1:0], and the old value where it is 3 (R86, R229). -/
def writtenKind (old : Variant) (v : Word) : Variant :=
  (Variant.ofCode (v.extractLsb' 0 2)).getD old

/-- TRIGPIN.PIN: v[7:0] (R231). -/
def writtenPin (v : Word) : Byte := v.extractLsb' 0 8

/-- TRIGPIN.EDGE: v[8] (R231). -/
def writtenEdge (v : Word) : Edge := Edge.ofCode (v.getLsbD 8)

/-- TRIGBYTE.BYTE: v[7:0] (R233). -/
def writtenByte (v : Word) : Byte := v.extractLsb' 0 8

/-- UARTDIV as a write takes it: v, and the old value where v is 0 (R86, R235). -/
def writtenDiv (old v : Word) : Word := if v = 0 then old else v

/-- OUTCTL.OUT_EN: v[0] (R237). -/
def writtenOutEn (v : Word) : Bool := v.getLsbD 0

/-- OUTCTL.INV_EN: v[1] (R237). -/
def writtenInvEn (v : Word) : Bool := v.getLsbD 1

/-- The four AUX bits of FLAGS: v[3:0] (R243). -/
def writtenAux (v : Word) : BitVec 4 := v.extractLsb' 0 4

/-- The TRIGKIND word (R230). -/
def trigkindWord (kind : Variant) : Word := (Variant.code kind).setWidth 32

/-- The TRIGPIN word (R232). -/
def trigpinWord (pin : Byte) (edge : Edge) : Word :=
  (bitWord (Edge.code edge) <<< 8) ||| pin.setWidth 32

/-- The TRIGBYTE word (R234). -/
def trigbyteWord (byte : Byte) : Word := byte.setWidth 32

/-- The OUTCTL word (R238). -/
def outctlWord (outEn invEn : Bool) : Word := (bitWord invEn <<< 1) ||| bitWord outEn

end Sys2Proof.Machine
end

