-- ==== Sys2Proof/Machine/Flags.lean ====
section
/-!
DEFINITION. The flags: the RESULT codes, the STATUS and FLAGS words, and what FIRED and RELEASE become in a cycle.
-/

namespace Sys2Proof.Machine

/-- The 3-bit code of a RESULT (R260). -/
def ResultCode.code : ResultCode → BitVec 3
  | .ok => 0
  | .errState => 1
  | .errResource => 2
  | .errConfig => 3
  | .errIllegal => 4

/-- The STATUS word (R50, R239): RESULT[2:0], ARMED[4], FIRED[5], QLEVEL[10:8], RESIDENT[13:12]. QLEVEL is a field of
three bits. -/
def statusWord (b : Block) : Word :=
  (ResultCode.code b.result).setWidth 32 ||| (bitWord b.armed <<< 4) ||| (bitWord b.fired <<< 5) |||
    ((BitVec.ofNat 3 b.q.length).setWidth 32 <<< 8) ||| ((Variant.code b.resident).setWidth 32 <<< 12)

/-- The FLAGS word (R59, R242): running, triggered, finished, error, armed. -/
def flagsWord (b : Block) : Word :=
  bitWord (b.aux.getLsbD 0) ||| (bitWord (b.aux.getLsbD 1) <<< 1) ||| (bitWord (b.aux.getLsbD 2) <<< 2) |||
    (bitWord (b.aux.getLsbD 3) <<< 3) ||| (bitWord b.armed <<< 4)

/-- RELEASE after a cycle: a detector's set wins over the generator's consume (R172). -/
def nextRelease (release consumed fired : Bool) : Bool := (release && !consumed) || fired

/-- FIRED after a cycle (R172). -/
def nextFired (old fired : Bool) : Bool := old || fired

/-- `result(c)`: STATUS.RESULT becomes c (R17, R260). -/
def Block.withResult (b : Block) (c : ResultCode) : Block := { b with result := c }

/-- GCOUNT + 1 mod 2^32 (R44). -/
def Block.countGlitch (b : Block) : Block := { b with gcount := b.gcount + 1 }

end Sys2Proof.Machine
end

