-- ==== Sys2Proof/Machine/Ops.lean ====
section
/-!
DEFINITION. How a transaction ends: with a response and the block's new state (R100, R220), or with BusError (R262),
which is all this block has of exceptions (R263: no trap, no entry, no return).
-/

namespace Sys2Proof.Machine

/-- The block becomes `b` and the response is {rdata, err}. -/
def State.respond (s : State) (b : Block) (rdata : Word) (err : Bool) : State :=
  { s with blk := b, resp := some ⟨rdata, err⟩ }

/-- A write ends: RDATA = 0, ERR = 0 (R100, R220). -/
def writeDone (s : State) (b : Block) : Answer := .next (s.respond b 0 false)

/-- A read ends: RDATA as given, ERR = 0, the block unchanged (R220). -/
def readDone (s : State) (rdata : Word) : Answer := .next (s.respond s.blk rdata false)

/-- BusError: ERR = 1, RDATA = 0, no state change (R262). It is a response, after which "the next transaction proceeds
normally": a next state (DEDUCED, log 10, safe). -/
def busError (s : State) : Answer := .next (s.respond s.blk 0 true)

/-- A write that changes CFG alone (R89). -/
def writeCfg (s : State) (c : Cfg) : Answer := writeDone s { s.blk with cfg := c }

end Sys2Proof.Machine
end

