-- ==== Sys2Proof/Machine/Detector.lean ====
section
/-!
DEFINITION. The trigger detectors: GPIO edge and UART byte match (40_trigger_detector.md).
-/

namespace Sys2Proof.Machine

/-- The level of `trig_in[pin]` (R14, R134). -/
def Inputs.line (inp : Inputs) (pin : Byte) : Bool := inp.trig.getLsbD pin.toNat

/-- The active level of an edge: 1 for rising, 0 for falling (R134). -/
def Edge.active : Edge → Bool
  | .rising => true
  | .falling => false

/-- The GPIO detector runs in the states other than G_OFF and G_DONE (R130). -/
def Gd.running (gd : Gd) : Bool :=
  match gd.st with
  | .off => false
  | .waitIdle => true
  | .waitActive => true
  | .qual => true
  | .done => false

/-- The UART detector runs in the states other than U_OFF and U_DONE (R130). -/
def Ud.running (ud : Ud) : Bool :=
  match ud.st with
  | .off => false
  | .waitIdle => true
  | .waitStart => true
  | .start => true
  | .data => true
  | .done => false

/-- GpioStep (R134): the new GD, and whether the detector fires. -/
def gpioStep (P : Params) (edge : Edge) (s : Bool) (gd : Gd) : Gd × Bool :=
  let a := Edge.active edge
  match gd.st with
  | .off => (gd, false)
  | .done => (gd, false)
  | .waitIdle => if s ≠ a then ({ gd with st := .waitActive }, false) else (gd, false)
  | .waitActive =>
    if s = a then
      if P.debounce = 1 then ({ gd with st := .done }, true) else (⟨.qual, 1⟩, false)
    else (gd, false)
  | .qual =>
    if s = a then
      let k := gd.k + 1
      if k.toNat = P.debounce then (⟨.done, k⟩, true) else (⟨.qual, k⟩, false)
    else (⟨.waitActive, 0⟩, false)

/-- `UD.sh[i] <- s` (R142): data bit i received is bit i of the byte (R143). -/
def setBit (sh : Byte) (i : BitVec 3) (s : Bool) : Byte :=
  (sh &&& ~~~(1#8 <<< i.toNat)) ||| ((BitVec.ofBool s).setWidth 8 <<< i.toNat)

/-- `(UD.tc + 1) mod LAT.div`, the remainder of unsigned numbers (R16, R141); by 0, which no run reaches (R63 item 6), a
free value (DESIGN CHOICE, log 6, safe). -/
def nextTc (tc div : Word) : Word :=
  if div = 0 then Config.remainderByZero tc else BitVec.ofNat 32 ((tc.toNat + 1) % div.toNat)

/-- What a tick does to UD (R142): the new UD, and whether the detector fires. -/
def uartTick (byte : Byte) (s : Bool) (ud : Ud) : Ud × Bool :=
  match ud.st with
  | .off => (ud, false)
  | .done => (ud, false)
  | .waitIdle => if s then ({ ud with st := .waitStart }, false) else (ud, false)
  | .waitStart => if s then (ud, false) else ({ ud with st := .start, k := 0 }, false)
  | .start =>
    let k := ud.k + 1
    if k = 4 then
      if s then ({ ud with st := .waitStart, k := k }, false)
      else ({ ud with st := .data, i := 0, k := 0, sh := 0 }, false)
    else ({ ud with k := k }, false)
  | .data =>
    let k := ud.k + 1
    if k = 8 then
      let sh := setBit ud.sh ud.i s
      if ud.i = 7 then
        if sh = byte then ({ ud with st := .done, k := 0, sh := sh }, true)
        else ({ ud with st := .waitIdle, k := 0, sh := sh }, false)
      else ({ ud with k := 0, sh := sh, i := ud.i + 1 }, false)
    else ({ ud with k := k }, false)

/-- UartStep (R141, R142): the divider advances, and a tick comes where it stood at 0. -/
def uartStep (lat : Lat) (s : Bool) (ud : Ud) : Ud × Bool :=
  let ud' := { ud with tc := nextTc ud.tc lat.div }
  if ud.tc = 0 then uartTick lat.byte s ud' else (ud', false)

/-- What DetStep gives: the detectors' next state, and whether one performs Fire() (R130, R131). -/
structure Detected where
  gd : Gd
  ud : Ud
  fired : Bool
deriving DecidableEq, Repr

/-- DetStep (R130): each detector that runs takes its step. -/
def detStep (P : Params) (inp : Inputs) (b : Block) : Detected :=
  let g := if b.gd.running then gpioStep P b.lat.edge (inp.line b.lat.pin) b.gd else (b.gd, false)
  let u := if b.ud.running then uartStep b.lat inp.uartRx b.ud else (b.ud, false)
  ⟨g.1, u.1, g.2 || u.2⟩

/-- DetStop (R139): both detectors off, all their counts cleared. -/
def Block.detStop (b : Block) : Block :=
  { b with gd := ⟨.off, 0⟩, ud := ⟨.off, 0, 0, 0, 0⟩ }

/-- DetStart (R138): both cleared, then the one of the kind starts. -/
def Block.detStart (b : Block) (kind : Variant) : Block :=
  match kind with
  | .none => { b with gd := ⟨.off, 0⟩, ud := ⟨.off, 0, 0, 0, 0⟩ }
  | .gpio => { b with gd := ⟨.waitIdle, 0⟩, ud := ⟨.off, 0, 0, 0, 0⟩ }
  | .uart => { b with gd := ⟨.off, 0⟩, ud := ⟨.waitIdle, 0, 0, 0, 0⟩ }

end Sys2Proof.Machine
end

