-- ==== Sys2Proof/Machine/Generator.lean ====
section
/-!
DEFINITION. The pulse generator and the glitch output mux (41_pulse_generator.md, R48).
-/

namespace Sys2Proof.Machine

/-- PgStopReset (R160). -/
def Block.pgStopReset (b : Block) : Block :=
  { b with pg := ⟨.stopped, 0, 0, 0, 0⟩, q := [] }

/-- PgLoad (R161): the queue holds pause, count − 1, width, gap, and the generator waits. -/
def Block.pgLoad (b : Block) : Block :=
  { b with q := [b.cfg.pause, b.cfg.count - 1, b.cfg.width, b.cfg.gap], pg := { b.pg with st := .wait } }

/-- PgDisarm (R170): a waiting generator stops, Q is emptied, a running sequence goes on. -/
def Block.pgDisarm (b : Block) : Block :=
  { b with pg := { b.pg with st := if b.pg.st = .wait then .stopped else b.pg.st }, q := [] }

/-- `max(v, P_FLOOR)` (R164). -/
def clamp (P : Params) (v : Word) : Word := BitVec.ofNat 32 (max v.toNat P.floor)

/-- `pop(Q)` (R38, R165): the head. An empty queue, which no run pops (R63 item 1), gives the k-th free word
(DESIGN CHOICE, log 6, safe). -/
def pop (k : Nat) (q : List Word) : Word × List Word :=
  match q with
  | [] => (Config.emptyPop k, [])
  | v :: rest => (v, rest)

/-- BeginPulses (R165). -/
def Pg.beginPulses (pg : Pg) : Pg :=
  if 0 < pg.reps.toNat then { pg with st := .high, cnt := pg.w } else { pg with st := .stopped, cnt := 0 }

/-- StartSequence (R165): the four words are taken, width and gap clamped, and the pause or the pulses begin. -/
def startSequence (P : Params) (pg : Pg) (q : List Word) : Pg × List Word :=
  let p := pop 0 q
  let c := pop 1 p.2
  let w := pop 2 c.2
  let g := pop 3 w.2
  let pg' := { pg with w := clamp P w.1, g := clamp P g.1, reps := c.1 + 1 }
  (if 0 < p.1.toNat then { pg' with st := .pause, cnt := p.1 } else pg'.beginPulses, g.2)

/-- The generator's step (R166, R167, R168), from the RELEASE, PG and Q of the start of the cycle. -/
def pgStep (P : Params) (release : Bool) (pg : Pg) (q : List Word) : Pg × List Word :=
  match pg.st with
  | .stopped => (pg, q)
  | .wait => if release then startSequence P pg q else (pg, q)
  | .pause =>
    let cnt := pg.cnt - 1
    (if cnt = 0 then Pg.beginPulses { pg with cnt := cnt } else { pg with cnt := cnt }, q)
  | .high =>
    let cnt := pg.cnt - 1
    (if cnt = 0 then { pg with st := .low, cnt := pg.g } else { pg with cnt := cnt }, q)
  | .low =>
    let cnt := pg.cnt - 1
    (if cnt = 0 then
       let reps := pg.reps - 1
       if 0 < reps.toNat then { pg with st := .high, cnt := pg.w, reps := reps }
       else { pg with st := .stopped, cnt := cnt, reps := reps }
     else { pg with cnt := cnt }, q)

/-- Whether the generator consumes RELEASE in this cycle (R166, R172). -/
def consumes (b : Block) : Bool := decide (b.pg.st = .wait) && b.release

/-- A glitch output in a cycle: Z (not driven), or driven to a level (R48). -/
inductive Drive where
  | z
  | level (bit : Bool)
deriving DecidableEq, Repr

/-- The pull on an input pin (R48). -/
inductive Pull where
  | none | up | down
deriving DecidableEq, Repr

/-- `active = (PG.st = HIGH)` (R48). -/
def Block.active (b : Block) : Bool := decide (b.pg.st = .high)

/-- The normal glitch output (R48, R174). -/
def outO (b : Block) : Drive := if b.cfg.outEn then .level b.active else .z

/-- The inverted glitch output (R48, R174). -/
def outnO (b : Block) : Drive := if b.cfg.invEn then .level (!b.active) else .z

/-- The ARMED output signal (R48, R176). -/
def armedO (b : Block) : Bool := b.armed

/-- The FIRED output signal (R48, R176). -/
def firedO (b : Block) : Bool := b.fired

/-- The pull on pin p: DOWN for a rising edge, UP for a falling one, on the resident GPIO variant's pin (R48, R137). -/
def pullO (b : Block) (p : Nat) : Pull :=
  if b.resident = .gpio ∧ p = b.lat.pin.toNat then
    match b.lat.edge with
    | .rising => .down
    | .falling => .up
  else .none

/-- All outputs of a cycle; `pulls` has one entry per pin 0 .. P_NUM_PINS − 1 (R48). -/
structure Outputs where
  out : Drive
  outn : Drive
  armed : Bool
  fired : Bool
  pulls : List Pull
deriving DecidableEq, Repr

/-- The outputs, a function of the state alone: a Moore machine (R48). -/
def outputs (P : Params) (b : Block) : Outputs where
  out := outO b
  outn := outnO b
  armed := armedO b
  fired := firedO b
  pulls := (List.range P.numPins).map (pullO b)

end Sys2Proof.Machine
end

