-- ==== Sys2Proof/Machine/Hardware.lean ====
section
/-!
DEFINITION. The Hardware agent's step (R172) and its runs (R12).
-/

namespace Sys2Proof.Machine

/-- HwStep (R172): the detector and the generator both step from the state at the start of the cycle, and their writes
are combined. -/
def hwStep (P : Params) (inp : Inputs) (b : Block) : Block :=
  let d := detStep P inp b
  let r := pgStep P b.release b.pg b.q
  { b with
    gd := d.gd
    ud := d.ud
    pg := r.1
    q := r.2
    release := nextRelease b.release (consumes b) d.fired
    fired := nextFired b.fired d.fired }

/-- The block after cycles 0 to n − 1 with no host transaction, cycle t having the inputs `inp t` (R12). -/
def hwRun (P : Params) (inp : Nat → Inputs) : Nat → Block → Block
  | 0, b => b
  | n + 1, b => hwStep P (inp n) (hwRun P inp n b)

end Sys2Proof.Machine
end

