-- ==== Sys2Proof/Machine/Controller.lean ====
section
/-!
DEFINITION. The arm/disarm/execute controller: the commands (42_controller.md).
-/

namespace Sys2Proof.Machine

/-- P_AVAILABLE(kind); kind None loads nothing, so it is always available (R9, R190). -/
def Params.available (P : Params) : Variant → Bool
  | .none => true
  | .gpio => P.availableGpio
  | .uart => P.availableUart

/-- ARM's checks in their order: ERR_STATE, ERR_CONFIG, ERR_RESOURCE, else OK (R190, R266). -/
def armCheck (P : Params) (b : Block) : ResultCode :=
  if b.armed then .errState
  else if b.cfg.kind = .gpio ∧ P.numPins ≤ b.cfg.pin.toNat then .errConfig
  else if !Params.available P b.cfg.kind then .errResource
  else .ok

/-- RESIDENT ← variant(CFG.kind) (R192). -/
def Block.loadVariant (b : Block) : Block := { b with resident := b.cfg.kind }

/-- The detector parameters copied from CFG (R43, R191). -/
def Block.latchDetector (b : Block) : Block :=
  { b with lat := ⟨b.cfg.pin, b.cfg.edge, b.cfg.byte, b.cfg.uartdiv⟩ }

/-- ArmEffects, in the order of R191. -/
def Block.armEffects (b : Block) : Block :=
  let b := { b with fired := false }
  let b := { b.detStop with release := false }
  let b := b.pgStopReset
  let b := b.loadVariant
  let b := b.latchDetector
  let b := b.pgLoad
  let b := b.detStart b.cfg.kind
  { b with armed := true }

/-- DisarmEffects, in the order of R193. -/
def Block.disarmEffects (b : Block) : Block :=
  let b := { b with armed := false }
  let b := b.detStop
  let b := b.pgDisarm
  { b with release := false }

/-- EXECUTE's release: StartSequence where the generator waits, nothing otherwise (R196). -/
def Block.releaseDirect (P : Params) (b : Block) : Block :=
  if b.pg.st = .wait then
    let r := startSequence P b.pg b.q
    { b with pg := r.1, q := r.2 }
  else b

/-- ARM (R190). -/
def armCommand (P : Params) (b : Block) : Block :=
  match armCheck P b with
  | .ok => b.armEffects.withResult .ok
  | .errState => b.withResult .errState
  | .errConfig => b.withResult .errConfig
  | .errResource => b.withResult .errResource
  | .errIllegal => b.withResult .errIllegal

/-- DISARM (R194). -/
def disarmCommand (b : Block) : Block :=
  (if b.armed then b.disarmEffects else b).withResult .ok

/-- EXECUTE (R195, R196). -/
def executeCommand (P : Params) (b : Block) : Block :=
  if b.armed then
    let b := { b with fired := true }
    let b := b.releaseDirect P
    let b := b.countGlitch
    b.disarmEffects.withResult .ok
  else b.withResult .errState

/-- The values RESET gives CFG (R199). -/
def defaultCfg (P : Params) : Cfg where
  pause := 0
  width := 100
  gap := 100
  count := 1
  kind := .none
  pin := 0xFF
  edge := .rising
  byte := 0x00
  uartdiv := P.uartdivReset
  outEn := true
  invEn := false

/-- RESET (R199). -/
def resetCommand (P : Params) (b : Block) : Block :=
  let b := if b.armed then b.disarmEffects else b
  let b := { b with cfg := defaultCfg P, aux := 0, gcount := 0, fired := false }
  b.withResult .ok

/-- POLL (R202): a released generator is counted and disarmed. -/
def pollCommand (b : Block) : Block :=
  (if b.armed ∧ b.q.length = 0 then b.countGlitch.disarmEffects else b).withResult .ok

/-- CMD ARM (R190 to R192). -/
def execCmdArm (s : State) : Answer := writeDone s (armCommand Config.params s.blk)

/-- CMD DISARM (R193, R194). -/
def execCmdDisarm (s : State) : Answer := writeDone s (disarmCommand s.blk)

/-- CMD EXECUTE (R195 to R197). -/
def execCmdExecute (s : State) : Answer := writeDone s (executeCommand Config.params s.blk)

/-- CMD RESET (R198 to R200). -/
def execCmdReset (s : State) : Answer := writeDone s (resetCommand Config.params s.blk)

/-- CMD POLL (R202, R203). -/
def execCmdPoll (s : State) : Answer := writeDone s (pollCommand s.blk)

/-- CMD ILLEGAL (R105, R204): RESULT alone, whatever DATA is. -/
def execCmdIllegal (_data : Word) (s : State) : Answer := writeDone s (s.blk.withResult .errIllegal)

end Sys2Proof.Machine
end

