-- ==== Sys2Proof/Machine/Registers.lean ====
section
/-!
DEFINITION. The register reads and writes (43_register_access.md).
-/

namespace Sys2Proof.Machine

/-- WR PAUSE (R221). -/
def execWrPause (v : Word) (s : State) : Answer := writeCfg s { s.blk.cfg with pause := v }

/-- WR WIDTH (R223): the value is stored unclamped. -/
def execWrWidth (v : Word) (s : State) : Answer := writeCfg s { s.blk.cfg with width := v }

/-- WR GAP (R225). -/
def execWrGap (v : Word) (s : State) : Answer := writeCfg s { s.blk.cfg with gap := v }

/-- WR COUNT (R227). -/
def execWrCount (v : Word) (s : State) : Answer := writeCfg s { s.blk.cfg with count := v }

/-- WR TRIGKIND (R229). -/
def execWrTrigkind (v : Word) (s : State) : Answer :=
  writeCfg s { s.blk.cfg with kind := writtenKind s.blk.cfg.kind v }

/-- WR TRIGPIN (R231). -/
def execWrTrigpin (v : Word) (s : State) : Answer :=
  writeCfg s { s.blk.cfg with pin := writtenPin v, edge := writtenEdge v }

/-- WR TRIGBYTE (R233). -/
def execWrTrigbyte (v : Word) (s : State) : Answer := writeCfg s { s.blk.cfg with byte := writtenByte v }

/-- WR UARTDIV (R235). -/
def execWrUartdiv (v : Word) (s : State) : Answer :=
  writeCfg s { s.blk.cfg with uartdiv := writtenDiv s.blk.cfg.uartdiv v }

/-- WR OUTCTL (R237). -/
def execWrOutctl (v : Word) (s : State) : Answer :=
  writeCfg s { s.blk.cfg with outEn := writtenOutEn v, invEn := writtenInvEn v }

/-- WR FLAGS (R243): the ARMED bit of DATA is ignored. -/
def execWrFlags (v : Word) (s : State) : Answer := writeDone s { s.blk with aux := writtenAux v }

/-- RD CMD (R241): nothing is stored there. -/
def execRdCmd (s : State) : Answer := readDone s 0

/-- RD STATUS (R239). -/
def execRdStatus (s : State) : Answer := readDone s (statusWord s.blk)

/-- RD PAUSE (R222). -/
def execRdPause (s : State) : Answer := readDone s s.blk.cfg.pause

/-- RD WIDTH (R224). -/
def execRdWidth (s : State) : Answer := readDone s s.blk.cfg.width

/-- RD GAP (R226). -/
def execRdGap (s : State) : Answer := readDone s s.blk.cfg.gap

/-- RD COUNT (R228). -/
def execRdCount (s : State) : Answer := readDone s s.blk.cfg.count

/-- RD TRIGKIND (R230). -/
def execRdTrigkind (s : State) : Answer := readDone s (trigkindWord s.blk.cfg.kind)

/-- RD TRIGPIN (R232). -/
def execRdTrigpin (s : State) : Answer := readDone s (trigpinWord s.blk.cfg.pin s.blk.cfg.edge)

/-- RD TRIGBYTE (R234). -/
def execRdTrigbyte (s : State) : Answer := readDone s (trigbyteWord s.blk.cfg.byte)

/-- RD GCOUNT (R240). -/
def execRdGcount (s : State) : Answer := readDone s s.blk.gcount

/-- RD FLAGS (R242). -/
def execRdFlags (s : State) : Answer := readDone s (flagsWord s.blk)

/-- RD OUTCTL (R238). -/
def execRdOutctl (s : State) : Answer := readDone s (outctlWord s.blk.cfg.outEn s.blk.cfg.invEn)

/-- RD UARTDIV (R236). -/
def execRdUartdiv (s : State) : Answer := readDone s s.blk.cfg.uartdiv

end Sys2Proof.Machine
end

