-- ==== Sys2Proof/Machine/Dispatch.lean ====
section
/-! DEFINITION. The meaning of each instruction of the opcode map (R106), one arm per constructor. -/

namespace Sys2Proof.Machine

/-- What an instruction does. -/
def exec (i : Instr) (s : State) : Host.Outcome State Fault Refusal :=
  match i with
  | .cmdArm => Sys2Proof.Machine.execCmdArm s
  | .cmdDisarm => Sys2Proof.Machine.execCmdDisarm s
  | .cmdExecute => Sys2Proof.Machine.execCmdExecute s
  | .cmdReset => Sys2Proof.Machine.execCmdReset s
  | .cmdPoll => Sys2Proof.Machine.execCmdPoll s
  | .cmdIllegal data => Sys2Proof.Machine.execCmdIllegal data s
  | .rdCmd => Sys2Proof.Machine.execRdCmd s
  | .rdStatus => Sys2Proof.Machine.execRdStatus s
  | .wrPause v => Sys2Proof.Machine.execWrPause v s
  | .rdPause => Sys2Proof.Machine.execRdPause s
  | .wrWidth v => Sys2Proof.Machine.execWrWidth v s
  | .rdWidth => Sys2Proof.Machine.execRdWidth s
  | .wrGap v => Sys2Proof.Machine.execWrGap v s
  | .rdGap => Sys2Proof.Machine.execRdGap s
  | .wrCount v => Sys2Proof.Machine.execWrCount v s
  | .rdCount => Sys2Proof.Machine.execRdCount s
  | .wrTrigkind v => Sys2Proof.Machine.execWrTrigkind v s
  | .rdTrigkind => Sys2Proof.Machine.execRdTrigkind s
  | .wrTrigpin v => Sys2Proof.Machine.execWrTrigpin v s
  | .rdTrigpin => Sys2Proof.Machine.execRdTrigpin s
  | .wrTrigbyte v => Sys2Proof.Machine.execWrTrigbyte v s
  | .rdTrigbyte => Sys2Proof.Machine.execRdTrigbyte s
  | .rdGcount => Sys2Proof.Machine.execRdGcount s
  | .wrFlags v => Sys2Proof.Machine.execWrFlags v s
  | .rdFlags => Sys2Proof.Machine.execRdFlags s
  | .wrOutctl v => Sys2Proof.Machine.execWrOutctl v s
  | .rdOutctl => Sys2Proof.Machine.execRdOutctl s
  | .wrUartdiv v => Sys2Proof.Machine.execWrUartdiv v s
  | .rdUartdiv => Sys2Proof.Machine.execRdUartdiv s

end Sys2Proof.Machine
end

