-- ==== Sys2Proof/Machine/Schedule.lean ====
section
/-!
DEFINITION. How the Host's schedule, the Environment's inputs and the cycles meet the block (R12 to R14).
-/

namespace Sys2Proof.Machine

/-- The inputs of the coming cycle: the head of the tape, and past its end free levels (R14; DESIGN CHOICE, log 2,
safe). -/
def State.inputsNow (s : State) : Inputs :=
  match s.env with
  | [] => ⟨Config.freeTrigIn s.cycle, Config.freeUartRx s.cycle⟩
  | inp :: _ => inp

/-- One cycle of the machine (R12): HwStep with the inputs of the cycle. -/
def State.runCycle (s : State) : State :=
  { s with blk := hwStep Config.params s.inputsNow s.blk, env := s.env.tail, cycle := s.cycle + 1 }

/-- The next line of the host's schedule and the state without it. Past the end of the schedule the Host issues nothing
and cycles go on (R12, R13; DESIGN CHOICE, log 3, unsafe). -/
def State.takeLine (s : State) : HostLine × State :=
  match s.host with
  | [] => (.wait, s)
  | line :: rest => (line, { s with host := rest })

/-- The 41-bit word `w` of `nbits` bits put as the next line of the schedule (log 3, log 13). -/
def State.placeWord (s : State) (nbits w : Nat) : State :=
  { s with host := .txn 32 (BitVec.ofNat 41 (w % 2 ^ nbits)) :: s.host }

end Sys2Proof.Machine
end

