-- ==== Sys2Proof/Machine/Step.lean ====
section
/-!
DEFINITION. One step: the next line of the host's schedule, which is a transaction or a cycle (R12, R90; log 11).
-/

namespace Sys2Proof.Machine

/-- One step of the machine: a transaction is decoded and executed, or answered with BusError (R101); a wait runs one
cycle (R172). -/
def step (s : State) : Host.Outcome State Fault Refusal :=
  match s.takeLine with
  | (.wait, s') => .next s'.runCycle
  | (.txn bits T, s') =>
    match decodeAccess bits T with
    | .ok i => exec i s'
    | .error _ => busError s'

/-- `s` with the word put where `step` takes its next instruction: the head of the host's schedule (log 3). -/
def State.withFetchWord (s : State) (nbits w : Nat) : State := s.placeWord nbits w

end Sys2Proof.Machine
end

