-- ==== Sys2Proof/Machine/Api.lean ====
section
/-!
DEFINITION. The source's API as pseudo-instructions (R110 to R112): each call is a list of transactions at one boundary
and a value read from their responses.
-/

namespace Sys2Proof.Machine

/-- The calls of the API (R110, R112). -/
inductive ApiCall where
  | setPause (v : Word)
  | setWidth (v : Word)
  | setGap (v : Word)
  | setCount (v : Word)
  | setTriggerType (kind : Variant)
  | setTriggerPin (pin : Byte) (edge : Edge)
  | setTriggerByte (b : Byte)
  | arm
  | disarm
  | execute
  | reset
  | getFlags
  /-- Setting a SystemFlags auxiliary bit. -/
  | setAux (bit : Fin 4) (value : Bool)
  | getConfig
  | getCount
  | updateFlags
deriving DecidableEq, Repr

/-- SystemFlags (R47, R110). -/
structure SystemFlags where
  running : Bool
  triggered : Bool
  finished : Bool
  error : Bool
  armed : Bool
deriving DecidableEq, Repr

/-- The fields `get_config()` returns (R110), as the words read. -/
structure ConfigWords where
  pause : Word
  width : Word
  gap : Word
  count : Word
  trigkind : Word
  trigpin : Word
  trigbyte : Word
deriving DecidableEq, Repr

/-- What a call returns (R110, R112). -/
inductive ApiReturn where
  | nothing
  | success (ok : Bool)
  | flags (f : SystemFlags)
  | config (c : ConfigWords)
  | count (n : Word)
deriving DecidableEq, Repr

/-- The fields of a FLAGS word (R110: running = bit 0 up to armed = bit 4). -/
def SystemFlags.ofWord (v : Word) : SystemFlags :=
  ⟨v.getLsbD 0, v.getLsbD 1, v.getLsbD 2, v.getLsbD 3, v.getLsbD 4⟩

/-- "(old & 0xF) with the bit changed" (R110). -/
def auxChanged (old : Word) (bit : Fin 4) (value : Bool) : Word :=
  let kept := (old &&& 0xF) &&& ~~~(1#32 <<< bit.val)
  kept ||| (bitWord value <<< bit.val)

/-- The RDATA of the last response. -/
def State.rdata (s : State) : Word :=
  match s.resp with
  | none => 0
  | some r => r.rdata

/-- One transaction: the state after it and its RDATA; none where the machine stops, which it never does (R15). -/
def issue (i : Instr) (s : State) : Option (State × Word) :=
  match exec i s with
  | .next t => some (t, t.rdata)
  | .fault _ => none
  | .refused _ => none

/-- The transactions of a list, one after the other (R90): the state after them and their RDATAs. -/
def issueAll : List Instr → State → Option (State × List Word)
  | [], s => some (s, [])
  | i :: rest, s =>
    (issue i s).bind fun r => (issueAll rest r.1).map fun r' => (r'.1, r.2 :: r'.2)

/-- The transactions of a call (R110, R112), where the FLAGS word `old` is what `RD FLAGS` read. -/
def ApiCall.expansion (old : Word) : ApiCall → List Instr
  | .setPause v => [.wrPause v]
  | .setWidth v => [.wrWidth v]
  | .setGap v => [.wrGap v]
  | .setCount v => [.wrCount v]
  | .setTriggerType kind => [.wrTrigkind (trigkindWord kind)]
  | .setTriggerPin pin edge => [.wrTrigpin (trigpinWord pin edge)]
  | .setTriggerByte b => [.wrTrigbyte (trigbyteWord b)]
  | .arm => [.cmdArm, .rdStatus]
  | .disarm => [.cmdDisarm]
  | .execute => [.cmdExecute, .rdStatus]
  | .reset => [.cmdReset]
  | .getFlags => [.rdFlags]
  | .setAux bit value => [.rdFlags, .wrFlags (auxChanged old bit value)]
  | .getConfig => [.rdPause, .rdWidth, .rdGap, .rdCount, .rdTrigkind, .rdTrigpin, .rdTrigbyte]
  | .getCount => [.cmdPoll, .rdGcount]
  | .updateFlags => [.cmdPoll]

/-- What a call returns, from the RDATAs of its transactions (R110, R112). -/
def ApiCall.returns (call : ApiCall) (rdatas : List Word) : ApiReturn :=
  let nth (k : Nat) : Word := (rdatas[k]?).getD 0
  match call with
  | .arm => .success (decide ((nth 1).extractLsb' 0 3 = 0))
  | .execute => .success (decide ((nth 1).extractLsb' 0 3 = 0))
  | .getFlags => .flags (SystemFlags.ofWord (nth 0))
  | .getConfig => .config ⟨nth 0, nth 1, nth 2, nth 3, nth 4, nth 5, nth 6⟩
  | .getCount => .count (nth 1)
  | .setPause _ | .setWidth _ | .setGap _ | .setCount _ | .setTriggerType _ | .setTriggerPin _ _ | .setTriggerByte _
  | .disarm | .reset | .setAux _ _ | .updateFlags => .nothing

/-- A call at a boundary: the state after its transactions and what it returns (R110, R112). -/
def ApiCall.run (call : ApiCall) (s : State) : Option (State × ApiReturn) :=
  (issueAll (call.expansion (flagsWord s.blk)) s).map fun r => (r.1, call.returns r.2)

/-- `d` is a divider for a baud rate: P_CLOCK_HZ / (8 × baud) "rounded to an integer" (R235). The nearest integer is
meant, either one at a half (DEDUCED, log 16, safe). -/
def Params.IsUartDivider (P : Params) (baud d : Nat) : Prop :=
  0 < baud ∧ 2 * P.clockHz ≤ 8 * baud * (2 * d + 1) ∧ 8 * baud * (2 * d) ≤ 2 * P.clockHz + 8 * baud

end Sys2Proof.Machine
end

