-- ==== Sys2Proof/Machine/Assembler.lean ====
section
/-!
DEFINITION. The assembler lines of a host program (R108, R109): what each line puts on the bus, and how a line of text
is read. What R108 leaves open of the text is settled here by choice (log 18).
-/

namespace Sys2Proof.Machine

/-- The commands `CMD` names (R104, R108). -/
inductive Command where
  | arm | disarm | execute | reset | poll
deriving DecidableEq, Repr

/-- The opcode of a command (R104). -/
def Command.opc : Command → Word
  | .arm => 1
  | .disarm => 2
  | .execute => 3
  | .reset => 4
  | .poll => 5

/-- One line of a host program (R108). -/
inductive AsmLine where
  /-- `WR <reg>, <value>` -/
  | wr (r : Reg) (v : Word)
  /-- `RD <reg>` -/
  | rd (r : Reg)
  /-- `CMD <command>` -/
  | cmd (c : Command)
  /-- `WR @<offset>, <value>` -/
  | wrAt (offset : Offset) (v : Word)
  /-- `RD @<offset>` -/
  | rdAt (offset : Offset)
  /-- `WAIT <n>`: n cycles run before the next line. -/
  | wait (n : Nat)
  /-- A line with nothing but a comment, or nothing. -/
  | blank
deriving DecidableEq, Repr

/-- A transaction on a 32-bit bus. -/
def HostLine.bus (we : Bool) (offset : Offset) (data : Word) : HostLine := .txn 32 (mkTrans we offset data)

/-- What a line puts on the bus (R108). -/
def AsmLine.lines : AsmLine → List HostLine
  | .wr r v => [.bus true (Reg.offset r) v]
  | .rd r => [.bus false (Reg.offset r) 0]
  | .cmd c => [.bus true (Reg.offset .cmd) c.opc]
  | .wrAt offset v => [.bus true offset v]
  | .rdAt offset => [.bus false offset 0]
  | .wait n => List.replicate n .wait
  | .blank => []

/-- What a program puts on the bus, in order (R108). -/
def assemble (program : List AsmLine) : List HostLine := program.flatMap AsmLine.lines

/-- The value of `pin=<p>, edge=<rising|falling>`: {edge bit, p} (R109). -/
def trigpinOperand (pin : Byte) (edge : Edge) : Word := trigpinWord pin edge

/-- The value of `out=<0|1>, inv=<0|1>` (R109). -/
def outctlOperand (out inv : Bool) : Word := outctlWord out inv

/-- The names of the registers, each with its register (R36). -/
def regNames : List (List Char × Reg) := Reg.all.map fun r => (r.name.toList, r)

/-- The name of a command (R104, R108). -/
def Command.name : Command → String
  | .arm => "ARM"
  | .disarm => "DISARM"
  | .execute => "EXECUTE"
  | .reset => "RESET"
  | .poll => "POLL"

/-- The names of the commands, each with its command (R108). -/
def commandNames : List (List Char × Command) :=
  [Command.arm, .disarm, .execute, .reset, .poll].map fun c => (c.name.toList, c)

/-- The value a digit stands for in a base of at most 16; letters in either case (DESIGN CHOICE, log 18, unsafe). -/
def digitValue (base : Nat) (c : Char) : Option Nat :=
  let n := c.toNat
  let v := if 48 ≤ n ∧ n ≤ 57 then n - 48 else if 97 ≤ n ∧ n ≤ 102 then n - 87
    else if 65 ≤ n ∧ n ≤ 70 then n - 55 else 16
  if v < base then some v else none

/-- A number in a base, most significant digit first; at least one digit, zeros before it allowed (DESIGN CHOICE, log 18,
unsafe). -/
def readDigits (base : Nat) (cs : List Char) : Option Nat :=
  match cs with
  | [] => none
  | _ :: _ => cs.foldl (fun acc c => acc.bind fun a => (digitValue base c).map fun d => a * base + d) (some 0)

/-- A decimal or `0x` hexadecimal number (R108). -/
def readNumber (cs : List Char) : Option Nat :=
  match cs with
  | '0' :: 'x' :: rest => readDigits 16 rest
  | _ => readDigits 10 cs

/-- A number below 2^n, as n bits. R108 does not say what a line with a larger one is; it is read as no line (DESIGN
CHOICE, log 18, unsafe). -/
def readBits (n : Nat) (cs : List Char) : Option (BitVec n) :=
  (readNumber cs).bind fun v => if v < 2 ^ n then some (BitVec.ofNat n v) else none

/-- The text after a name and `=` (R109). -/
def readField (name cs : List Char) : Option (List Char) :=
  let head := name ++ ['=']
  if cs.take head.length = head then some (cs.drop head.length) else none

/-- The text before the first `--`. R108 makes a line that begins with `--` a comment and does not say what `--` after a
transaction is; it begins a comment there too (DESIGN CHOICE, log 18, unsafe). -/
def dropComment : List Char → List Char
  | [] => []
  | [c] => [c]
  | c :: d :: rest => if c = '-' ∧ d = '-' then [] else c :: dropComment (d :: rest)

/-- The words of a line: split at spaces, each comma a word of its own; `word` is the word being read, reversed.
R108 does not say where spaces may stand: any number may stand between words and around a comma (DESIGN CHOICE, log 18,
unsafe). -/
def lineWords (word : List Char) : List Char → List (List Char)
  | [] => if word = [] then [] else [word.reverse]
  | c :: rest =>
    if c = ' ' then (if word = [] then [] else [word.reverse]) ++ lineWords [] rest
    else if c = ',' then (if word = [] then [] else [word.reverse]) ++ [','] :: lineWords [] rest
    else lineWords (c :: word) rest

/-- PIN: a number or `none`, which is 0xFF (R109). -/
def readPin (cs : List Char) : Option Byte := if cs = "none".toList then some 0xFF else readBits 8 cs

/-- EDGE: `rising` or `falling` (R109). -/
def readEdge (cs : List Char) : Option Edge :=
  if cs = "rising".toList then some .rising else if cs = "falling".toList then some .falling else none

/-- A bit: `0` or `1` (R109). -/
def readBit (cs : List Char) : Option Bool :=
  if cs = "0".toList then some false else if cs = "1".toList then some true else none

/-- The value of a register write: a number, or for TRIGKIND one of its names (R108, R109). -/
def readValue (r : Reg) (cs : List Char) : Option Word :=
  if r = .trigkind ∧ cs = "none".toList then some 0
  else if r = .trigkind ∧ cs = "gpio".toList then some 1
  else if r = .trigkind ∧ cs = "uart".toList then some 2
  else readBits 32 cs

/-- The value of a write of two named fields: TRIGPIN's and OUTCTL's (R109). -/
def readFields (r : Reg) (a b : List Char) : Option Word :=
  match r with
  | .trigpin =>
    (readField "pin".toList a).bind fun p => (readField "edge".toList b).bind fun e =>
      (readPin p).bind fun pin => (readEdge e).map fun edge => trigpinOperand pin edge
  | .outctl =>
    (readField "out".toList a).bind fun o => (readField "inv".toList b).bind fun i =>
      (readBit o).bind fun out => (readBit i).map fun inv => outctlOperand out inv
  | .cmd | .status | .pause | .width | .gap | .count | .trigkind | .trigbyte | .gcount | .flags | .uartdiv => none

/-- The line of a `WR` with its operands (R108, R109). -/
def readWrite (operands : List (List Char)) : Option AsmLine :=
  match operands with
  | [target, comma, value] =>
    if comma = [','] then
      match target with
      | '@' :: offset => (readBits 8 offset).bind fun o => (readBits 32 value).map fun v => .wrAt o v
      | _ => (regNames.lookup target).bind fun r => (readValue r value).map fun v => .wr r v
    else none
  | [target, comma, a, comma', b] =>
    if comma = [','] ∧ comma' = [','] then
      (regNames.lookup target).bind fun r => (readFields r a b).map fun v => .wr r v
    else none
  | _ => none

/-- The line of an `RD` with its operand (R108). -/
def readRead (operands : List (List Char)) : Option AsmLine :=
  match operands with
  | [target] =>
    match target with
    | '@' :: offset => (readBits 8 offset).map .rdAt
    | _ => (regNames.lookup target).map .rd
  | _ => none

/-- A line of text as an assembler line; a comment line is blank (R108, R109). An empty line is blank too, and text
without their form is no line (DESIGN CHOICE, log 18, unsafe). -/
def readLine (text : List Char) : Option AsmLine :=
  match lineWords [] (dropComment text) with
  | [] => some .blank
  | op :: operands =>
    if op = "WR".toList then readWrite operands
    else if op = "RD".toList then readRead operands
    else if op = "CMD".toList then
      match operands with
      | [name] => (commandNames.lookup name).map .cmd
      | _ => none
    else if op = "WAIT".toList then
      match operands with
      | [n] => (readDigits 10 n).map .wait
      | _ => none
    else none

end Sys2Proof.Machine
end

