-- ==== Sys2Proof/Safety.lean ====
section
/-!
DEFINITION. The terms claims are stated in: the invariants of R63, the ranges of the counters, the controller's states
(R189), kinds of transactions, what the host can see (R271), the text of numbers (R108), runs.
-/

namespace Sys2Proof

/-- A write to CMD (R104, R105). -/
def Instr.isCommand : Instr → Bool
  | .cmdArm | .cmdDisarm | .cmdExecute | .cmdReset | .cmdPoll | .cmdIllegal _ => true
  | .rdCmd | .rdStatus | .wrPause _ | .rdPause | .wrWidth _ | .rdWidth | .wrGap _ | .rdGap | .wrCount _ | .rdCount
  | .wrTrigkind _ | .rdTrigkind | .wrTrigpin _ | .rdTrigpin | .wrTrigbyte _ | .rdTrigbyte | .rdGcount
  | .wrFlags _ | .rdFlags | .wrOutctl _ | .rdOutctl | .wrUartdiv _ | .rdUartdiv => false

/-- A read (WE = 0, R100). -/
def Instr.isRead : Instr → Bool
  | .rdCmd | .rdStatus | .rdPause | .rdWidth | .rdGap | .rdCount | .rdTrigkind | .rdTrigpin | .rdTrigbyte | .rdGcount
  | .rdFlags | .rdOutctl | .rdUartdiv => true
  | .cmdArm | .cmdDisarm | .cmdExecute | .cmdReset | .cmdPoll | .cmdIllegal _ | .wrPause _ | .wrWidth _ | .wrGap _
  | .wrCount _ | .wrTrigkind _ | .wrTrigpin _ | .wrTrigbyte _ | .wrFlags _ | .wrOutctl _ | .wrUartdiv _ => false

/-- A write to a register that ARM latches (R244, R296). -/
def Instr.isLatchedWrite : Instr → Bool
  | .wrPause _ | .wrWidth _ | .wrGap _ | .wrCount _ | .wrTrigkind _ | .wrTrigpin _ | .wrTrigbyte _ | .wrUartdiv _ => true
  | .cmdArm | .cmdDisarm | .cmdExecute | .cmdReset | .cmdPoll | .cmdIllegal _ | .rdCmd | .rdStatus | .rdPause
  | .rdWidth | .rdGap | .rdCount | .rdTrigkind | .rdTrigpin | .rdTrigbyte | .rdGcount | .wrFlags _ | .rdFlags
  | .wrOutctl _ | .rdOutctl | .rdUartdiv => false

end Sys2Proof

namespace Sys2Proof.Machine

/-- The invariants of R63. Of item 5 it holds what one state shows; that RESIDENT is the CFG.kind of the last ARM is
history. Items about values that no constructor holds (KIND = 3) are met by the types (log 8). -/
structure Block.Inv (P : Params) (b : Block) : Prop where
  /-- Item 1: the length of Q is 0 or 4. -/
  queueLength : b.q = [] ∨ b.q.length = 4
  /-- Item 1: it is 4 exactly when PG.st = WAIT. -/
  queueFull : b.q.length = 4 ↔ b.pg.st = .wait
  /-- Item 2. -/
  waitArmed : b.pg.st = .wait → b.armed = true
  /-- Item 3, GPIO. -/
  gpioResident : b.gd.st ≠ .off → b.resident = .gpio ∧ b.armed = true
  /-- Item 3, UART. -/
  uartResident : b.ud.st ≠ .off → b.resident = .uart ∧ b.armed = true
  /-- Item 4. -/
  disarmed : b.armed = false → b.release = false ∧ b.gd.st = .off ∧ b.ud.st = .off ∧ b.pg.st ≠ .wait
  /-- Item 5. -/
  pinExists : b.armed = true → b.resident = .gpio → b.lat.pin.toNat < P.numPins
  /-- Item 6. -/
  divNonzero : b.cfg.uartdiv ≠ 0 ∧ b.lat.div ≠ 0

/-- A sequence is under way: the source's Firing (R189). -/
def Block.Firing (b : Block) : Prop := b.pg.st = .pause ∨ b.pg.st = .high ∨ b.pg.st = .low

/-- The source's Disarmed (R189). -/
def Block.Disarmed (b : Block) : Prop := b.armed = false

/-- The source's Armed (R189). -/
def Block.ArmedWaiting (b : Block) : Prop := b.armed = true ∧ b.pg.st = .wait

/-- As after power-on reset, in all that the outputs and the detectors' cycles read: the state "until the first ARM or
EXECUTE" (R292). -/
structure Block.Untouched (b : Block) : Prop where
  disarmed : b.armed = false
  notFired : b.fired = false
  nothingResident : b.resident = .none
  stopped : b.pg.st = .stopped
  gpioOff : b.gd.st = .off
  uartOff : b.ud.st = .off
  outEnabled : b.cfg.outEn = true
  invDisabled : b.cfg.invEn = false

/-- The ranges of the counters and what the detectors and RELEASE say of the generator (R39 to R41, R164, R167, R172). -/
structure Block.Ranges (P : Params) (b : Block) : Prop where
  /-- "PG.cnt ≥ 1 at the start of every PAUSE, HIGH or LOW cycle" (R167). -/
  cntPositive : b.Firing → 1 ≤ b.pg.cnt.toNat
  /-- No phase of a pulse is shorter than P_FLOOR (R164). -/
  clamped : b.Firing → P.floor ≤ b.pg.w.toNat ∧ P.floor ≤ b.pg.g.toNat
  /-- A pulse under way is one of those left (R39). -/
  repsPositive : b.pg.st = .high ∨ b.pg.st = .low → 1 ≤ b.pg.reps.toNat
  /-- A phase lasts no longer than its latched length (R167). -/
  cntBounded : (b.pg.st = .high → b.pg.cnt.toNat ≤ b.pg.w.toNat) ∧ (b.pg.st = .low → b.pg.cnt.toNat ≤ b.pg.g.toNat)
  /-- GD.k is 0 to P_DEBOUNCE (R40), and below it while the detector counts (R134). -/
  debounceCount : b.gd.k.toNat ≤ P.debounce ∧
    (b.gd.st = .qual → 1 ≤ b.gd.k.toNat ∧ b.gd.k.toNat < P.debounce)
  /-- UD.tc is 0 to LAT.div − 1 (R41). -/
  tickCount : b.ud.tc.toNat < b.lat.div.toNat
  /-- UD.k is 0 to 8 (R41), below 4 in a start bit and below 8 in a data bit (R142). -/
  bitTicks : b.ud.k.toNat ≤ 8 ∧ (b.ud.st = .start → b.ud.k.toNat < 4) ∧ (b.ud.st = .data → b.ud.k.toNat < 8)
  /-- A detector that is off has its counts cleared (R138, R139). -/
  offCleared : (b.gd.st = .off → b.gd.k = 0) ∧ (b.ud.st = .off → b.ud = ⟨.off, 0, 0, 0, 0⟩)
  /-- A detector runs only before any fire, while the generator waits (R172). -/
  detecting : b.gd.running = true ∨ b.ud.running = true → b.fired = false ∧ b.release = false ∧ b.pg.st = .wait
  /-- RELEASE is set only after a fire, while the generator waits (R168, 93 U22). -/
  released : b.release = true → b.fired = true ∧ b.pg.st = .wait

/-- All invariants of the block under the parameters of the model. -/
def State.Good (s : State) : Prop := s.blk.Inv Config.params ∧ s.blk.Ranges Config.params

/-- `k` steps. -/
def runSteps : Nat → State → Answer
  | 0, s => .next s
  | k + 1, s =>
    match step s with
    | .next t => runSteps k t
    | .fault r => .fault r
    | .refused r => .refused r

/-- `t` is the state `k` steps after `s`. -/
def Reaches (k : Nat) (s t : State) : Prop := runSteps k s = .next t

/-- No line of the schedule is an ARM command, so none can perform PgStopReset (R160, R169). -/
def State.NoArm (s : State) : Prop :=
  ∀ bits T, HostLine.txn bits T ∈ s.host → decodeAccess bits T ≠ .ok .cmdArm

/-- `c` is a digit of the value `d`: 0 to 9, then a to f or A to F (either case: log 18). -/
def IsDigit (c : Char) (d : Nat) : Prop :=
  (d < 10 ∧ c = Char.ofNat (48 + d)) ∨ (10 ≤ d ∧ d < 16 ∧ (c = Char.ofNat (87 + d) ∨ c = Char.ofNat (55 + d)))

/-- `text` is `n` written with the digits of a base, the most significant first, zeros before it allowed (log 18). -/
def IsDigits (base : Nat) (text : List Char) (n : Nat) : Prop :=
  ∃ ds : List Nat, ds ≠ [] ∧ (∀ d ∈ ds, d < base) ∧ List.Forall₂ IsDigit text ds ∧
    n = ds.foldl (fun a d => a * base + d) 0

/-- `text` is `n` as R108 writes numbers: decimal, or hexadecimal after `0x`. -/
def IsNumberText (text : List Char) (n : Nat) : Prop :=
  IsDigits 10 text n ∨ ∃ digits, text = '0' :: 'x' :: digits ∧ IsDigits 16 digits n

/-- What the host can read of a block: all but RELEASE, PG, GD, UD, LAT and the words in Q (R271). -/
structure HostView where
  cfg : Cfg
  armed : Bool
  fired : Bool
  qlevel : Nat
  resident : Variant
  gcount : Word
  aux : BitVec 4
  result : ResultCode
deriving DecidableEq, Repr

/-- The host's view of a block (R271). -/
def Block.hostView (b : Block) : HostView :=
  ⟨b.cfg, b.armed, b.fired, b.q.length, b.resident, b.gcount, b.aux, b.result⟩

/-- The effect on the block of one line of the schedule, the inputs of a cycle being `inp` (R12, R90). -/
def Block.afterTxn (b : Block) (bits : Nat) (T : Trans) : Block :=
  match decodeAccess bits T with
  | .error _ => b
  | .ok i =>
    match exec i ⟨b, [], [], 0, none⟩ with
    | .next t => t.blk
    | .fault _ => b
    | .refused _ => b

/-- The block after the transactions of a boundary, in issue order: `h_n(…h_1(b))` (R12). -/
def Block.afterBoundary (b : Block) (txns : List (Nat × Trans)) : Block :=
  txns.foldl (fun b x => b.afterTxn x.1 x.2) b

end Sys2Proof.Machine
end

