-- ==== Sys2Proof/WellFormed.lean ====
section
/-!
DEFINITION. Which terms of Instr stand for a transaction of the opcode map: all, but that CMD ILLEGAL's DATA is no
legal command word (R105, R106).
-/

namespace Sys2Proof

/-- DATA is one of the five command words: OPC 1 to 5 with DATA[31:4] = 0 (R104). -/
def isCommandWord (data : Word) : Bool :=
  data == 1 || data == 2 || data == 3 || data == 4 || data == 5

/-- The one check a term can fail: the ILLEGAL row applies only when no ARM to POLL row does (R106). -/
def Instr.wf : Instr → Bool
  | .cmdIllegal data => !isCommandWord data
  | .cmdArm | .cmdDisarm | .cmdExecute | .cmdReset | .cmdPoll
  | .rdCmd | .rdStatus | .wrPause _ | .rdPause | .wrWidth _ | .rdWidth | .wrGap _ | .rdGap | .wrCount _ | .rdCount
  | .wrTrigkind _ | .rdTrigkind | .wrTrigpin _ | .rdTrigpin | .wrTrigbyte _ | .rdTrigbyte | .rdGcount
  | .wrFlags _ | .rdFlags | .wrOutctl _ | .rdOutctl | .wrUartdiv _ | .rdUartdiv => true

end Sys2Proof
end

