-- ==== Sys2Proof/Certificates/Slice0/Obligations.lean ====
section
/-!
DEFINITION. What is claimed of the model: one proposition per claim, each citing the rules it formalises.
-/

open Sys2Proof Sys2Proof.Machine

/-! ### Encoding (30_encoding.md) -/

/-- Decoding what the encoder writes gives the instruction back, for every well-formed one (R100, R104, R106). -/
def Obligations.DecodeOfEncode : Prop :=
  ∀ i : Instr, i.wf = true → decode (encode i) = .ok i

/-- What decodes is well-formed, and encoding it gives T back; a read's DATA, which R100 ignores, comes back as 0. -/
def Obligations.EncodeOfDecode : Prop :=
  ∀ (T : Trans) (i : Instr), decode T = .ok i →
    i.wf = true ∧ (i.isRead = false → encode i = T) ∧ (i.isRead = true → encode i = T &&& 0x1FF00000000)

/-- The opcode map of R106: exactly one row applies to every T that is no BusError, and it is the decoder's. -/
def Obligations.ExactlyOneOpcodeRow : Prop :=
  ∀ T : Trans, (rowsOf T).map OpcodeRow.mnemonic =
    match decode T with
    | .ok i => [i.mnemonic]
    | .error _ => []

/-- R105: a command word with OPC 0 or 6 to 15, or with a bit of DATA[31:4] set, is ILLEGAL, which sets RESULT to
ERR_ILLEGAL, changes nothing else and raises no BusError. -/
def Obligations.IllegalCommandWords : Prop :=
  (∀ data : Word, (data.extractLsb' 0 4 = 0 ∨ 6 ≤ (data.extractLsb' 0 4).toNat ∨ data.extractLsb' 4 28 ≠ 0) →
    decode (mkTrans true 0x00 data) = .ok (.cmdIllegal data)) ∧
  (∀ (data : Word) (s : State), exec (.cmdIllegal data) s =
    .next { s with blk := { s.blk with result := .errIllegal }, resp := some ⟨0, false⟩ })

/-- The worked encodings of R113 decode to the transactions they stand for. -/
def Obligations.WorkedEncodings : Prop :=
  decode 0x10C00000096 = .ok (.wrWidth 150) ∧ decode 0x11C00000103 = .ok (.wrTrigpin 0x103) ∧
  decode 0x11C00000003 = .ok (.wrTrigpin 3) ∧ decode 0x10000000001 = .ok .cmdArm ∧
  decode 0x10000000005 = .ok .cmdPoll ∧ decode 0x02400000000 = .ok .rdGcount ∧ decode 0x00400000000 = .ok .rdStatus

/-- BusError (R262): for each of its causes the response is ERR = 1 with RDATA = 0 and nothing else changes; every
other transaction is answered with ERR = 0 (R100). -/
def Obligations.BusErrorChangesNothing : Prop :=
  ∀ (s : State) (bits : Nat) (T : Trans) (rest : List HostLine), s.host = .txn bits T :: rest →
    if bits ≠ 32 ∨ ¬((Trans.addr T).toNat % 4 = 0 ∧ (Trans.addr T).toNat ≤ 0x30) ∨
        (Trans.we T = true ∧ (Trans.addr T = 0x04 ∨ Trans.addr T = 0x24)) then
      step s = .next { s with host := rest, resp := some ⟨0, true⟩ }
    else ∃ t rdata, step s = .next t ∧ t.resp = some ⟨rdata, false⟩ ∧ t.host = rest ∧ t.env = s.env ∧ t.cycle = s.cycle

/-! ### Steps (R12, R15, R90) -/

/-- A transaction that decodes is executed, and its line leaves the schedule; the model's fetch adds nothing else. -/
def Obligations.StepRunsDecoded : Prop :=
  ∀ (s : State) (T : Trans) (rest : List HostLine) (i : Instr), s.host = .txn 32 T :: rest → decode T = .ok i →
    i.wf = true ∧ step s = exec i { s with host := rest }

/-- A wait, or the end of the schedule, runs one cycle with the inputs of that cycle (R12, R172). -/
def Obligations.StepRunsCycle : Prop :=
  ∀ s : State, s.host.head? = some .wait ∨ s.host = [] →
    step s = .next { s with
      host := s.host.tail
      blk := hwStep Config.params s.inputsNow s.blk
      env := s.env.tail
      cycle := s.cycle + 1 }

/-- The block never halts (R15): every step of every state answers a next state, and so does every instruction. -/
def Obligations.BlockNeverHalts : Prop :=
  (∀ s : State, ∃ t, step s = .next t) ∧
  (∀ (i : Instr) (s : State), ∃ b rdata, exec i s = .next { s with blk := b, resp := some ⟨rdata, false⟩ })

/-- All transactions of a boundary take effect in order, then the cycle sees all of them: S_{t+1} of R12, R90. -/
def Obligations.BoundaryThenCycle : Prop :=
  ∀ (s : State) (txns : List (Nat × Trans)) (rest : List HostLine),
    s.host = txns.map (fun x => HostLine.txn x.1 x.2) ++ .wait :: rest →
    ∃ t, Reaches (txns.length + 1) s t ∧ t.host = rest ∧ t.env = s.env.tail ∧ t.cycle = s.cycle + 1 ∧
      t.blk = hwStep Config.params s.inputsNow (s.blk.afterBoundary txns)

/-! ### Reset (R62, R290 to R292) -/

/-- The value of every element of the block's state after power-on reset (R62). -/
def Obligations.PowerOnReset : Prop :=
  State.reset.blk =
    { cfg := { pause := 0, width := 100, gap := 100, count := 1, kind := .none, pin := 0xFF, edge := .rising, byte := 0,
               uartdiv := Config.params.uartdivReset, outEn := true, invEn := false }
      armed := false, fired := false, release := false, q := []
      pg := { st := .stopped, cnt := 0, reps := 0, w := 0, g := 0 }
      gd := { st := .off, k := 0 }
      ud := { st := .off, tc := 0, k := 0, i := 0, sh := 0 }
      resident := .none
      lat := { pin := 0xFF, edge := .rising, byte := 0, div := Config.params.uartdivReset }
      gcount := 0, aux := 0, result := .ok }

/-- From power-on reset until the first ARM or EXECUTE (R292): the reset state is untouched, every step keeps an
untouched block so whose line is no ARM, no EXECUTE and no write of the output enables, whatever the inputs, and an
untouched block drives out_o = 0, outn_o = Z, armed_o = 0, fired_o = 0 and no pull. -/
def Obligations.OutputsIdleUntilArmed : Prop :=
  State.reset.blk.Untouched ∧
  (∀ s t : State, s.blk.Untouched → step s = .next t →
    (∀ T rest i, s.host = .txn 32 T :: rest → decode T = .ok i →
      i ≠ .cmdArm ∧ i ≠ .cmdExecute ∧ ∀ v, i ≠ .wrOutctl v) →
    t.blk.Untouched) ∧
  (∀ (P : Params) (b : Block), b.Untouched →
    outputs P b = ⟨.level false, .z, false, false, List.replicate P.numPins .none⟩)

/-! ### Invariants (R63) -/

/-- The invariants of R63 and the ranges of the counters hold at reset. -/
def Obligations.ResetIsGood : Prop := State.reset.Good

/-- Every step keeps the invariants of R63, from every state that has them. -/
def Obligations.StepKeepsInv : Prop :=
  ∀ s t : State, s.blk.Inv Config.params → step s = .next t → t.blk.Inv Config.params

/-- Every step keeps the ranges of the counters and the detectors' link to the generator (R39 to R41, R164, R167,
R172), from every state that has them and the invariants of R63. -/
def Obligations.StepKeepsRanges : Prop :=
  ∀ s t : State, s.Good → step s = .next t → t.blk.Ranges Config.params

/-! ### Pulse generator (41_pulse_generator.md) -/

/-- StartSequence (R165) with the clamp (R164) and the count (R163): Q is emptied, width and gap become
max(·, P_FLOOR), C + 1 pulses are left, and PAUSE begins for P cycles, or the pulses if P = 0, or STOPPED if there are
none. -/
def Obligations.ReleaseTakesTheQueue : Prop :=
  ∀ (P : Params) (pg : Pg) (p c w g : Word), P.Legal →
    (startSequence P pg [p, c, w, g]).2 = [] ∧
    (let r := (startSequence P pg [p, c, w, g]).1
     r.w.toNat = max w.toNat P.floor ∧ r.g.toNat = max g.toNat P.floor ∧ r.reps.toNat = (c.toNat + 1) % 2 ^ 32 ∧
     (p ≠ 0 → r.st = .pause ∧ r.cnt = p) ∧
     (p = 0 → c ≠ 0xFFFFFFFF → r.st = .high ∧ r.cnt = r.w) ∧
     (p = 0 → c = 0xFFFFFFFF → r.st = .stopped ∧ r.cnt = 0))

/-- The WAIT step (R166): a set RELEASE is consumed, unless a detector sets it again, and the sequence starts;
otherwise the generator does nothing. -/
def Obligations.WaitStepConsumesRelease : Prop :=
  ∀ (P : Params) (inp : Inputs) (b : Block), b.pg.st = .wait →
    (b.release = true →
      ((hwStep P inp b).pg, (hwStep P inp b).q) = startSequence P b.pg b.q ∧
      (hwStep P inp b).release = (detStep P inp b).fired) ∧
    (b.release = false →
      (hwStep P inp b).pg = b.pg ∧ (hwStep P inp b).q = b.q ∧ (hwStep P inp b).release = (detStep P inp b).fired)

/-- The sequence in closed form (R171), in a run in which the host issues anything but ARM: `m` cycles after its first
cycle the generator is in the phase the formula gives. -/
def Obligations.SequenceClosedForm : Prop :=
  ∀ (s t : State) (pg : Pg) (p c w g : Word) (k : Nat),
    s.NoArm → s.blk.pg = (startSequence Config.params pg [p, c, w, g]).1 → Reaches k s t →
    let m := t.cycle - s.cycle
    let n := (c.toNat + 1) % 2 ^ 32
    let W := max w.toNat Config.params.floor
    let G := max g.toNat Config.params.floor
    (m < p.toNat → t.blk.pg.st = .pause) ∧
    (∀ j i, j < n → i < W → m = p.toNat + j * (W + G) + i → t.blk.pg.st = .high) ∧
    (∀ j i, j < n → i < G → m = p.toNat + j * (W + G) + W + i → t.blk.pg.st = .low) ∧
    (p.toNat + n * (W + G) ≤ m → t.blk.pg.st = .stopped)

/-- "The normal output is active in exactly n·W' cycles" (R171): counted over any number of cycles that takes in the
whole sequence. -/
def Obligations.ActiveCycleCount : Prop :=
  ∀ (P : Params) (inp : Nat → Inputs) (b : Block) (pg : Pg) (p c w g : Word) (N : Nat),
    P.Legal → b.pg = (startSequence P pg [p, c, w, g]).1 →
    p.toNat + (c.toNat + 1) % 2 ^ 32 * (max w.toNat P.floor + max g.toNat P.floor) ≤ N →
    ((List.range N).filter (fun m => (hwRun P inp m b).active)).length =
      (c.toNat + 1) % 2 ^ 32 * max w.toNat P.floor

/-- Nothing but ARM stops a running sequence (R169, R295): every other transaction leaves PG as it is, and a successful
ARM puts the generator back to WAIT in any phase (R160, R294). -/
def Obligations.OnlyArmStopsASequence : Prop :=
  (∀ (i : Instr) (s : State), s.blk.Firing → i ≠ .cmdArm → ∃ t, exec i s = .next t ∧ t.blk.pg = s.blk.pg) ∧
  (∀ (P : Params) (b : Block), b.Firing → armCheck P b = .ok → (armCommand P b).pg = ⟨.wait, 0, 0, 0, 0⟩)

/-- A sequence runs at most once per ARM (R178 item 6): without an ARM a generator that has left WAIT never waits again,
and a stopped one stays stopped. -/
def Obligations.AtMostOneSequencePerArm : Prop :=
  ∀ (s t : State) (k : Nat), s.NoArm → s.blk.pg.st ≠ .wait → Reaches k s t →
    t.blk.pg.st ≠ .wait ∧ (s.blk.pg.st = .stopped → t.blk.pg = s.blk.pg)

/-- The outputs (R48): the two glitch outputs per generator state and OUTCTL (R175), complements where both are driven
(R174); armed_o = ARMED and fired_o = FIRED (R176); and one pull for each pin 0 to P_NUM_PINS − 1. -/
def Obligations.OutputMux : Prop :=
  ∀ (P : Params) (b : Block),
    (b.pg.st = .high → (outputs P b).out = (if b.cfg.outEn then .level true else .z) ∧
      (outputs P b).outn = (if b.cfg.invEn then .level false else .z)) ∧
    (b.pg.st ≠ .high → (outputs P b).out = (if b.cfg.outEn then .level false else .z) ∧
      (outputs P b).outn = (if b.cfg.invEn then .level true else .z)) ∧
    (b.cfg.outEn = true → b.cfg.invEn = true →
      ∃ v, (outputs P b).out = .level v ∧ (outputs P b).outn = .level (!v)) ∧
    (outputs P b).armed = b.armed ∧ (outputs P b).fired = b.fired ∧
    (outputs P b).pulls.length = P.numPins ∧
    (∀ p < P.numPins, (outputs P b).pulls[p]? = some
      (if b.resident = .gpio ∧ p = b.lat.pin.toNat then (if b.lat.edge = .rising then .down else .up) else .none))

/-- The pull (R137): on LAT.pin alone, DOWN for rising and UP for falling, while RESIDENT = GPIO; no other command, no
cycle and no step at all but an ARM changes it, so that it stays after DISARM. -/
def Obligations.PullFollowsResidentPin : Prop :=
  (∀ (b : Block) (p : Nat), pullO b p ≠ .none ↔ b.resident = .gpio ∧ p = b.lat.pin.toNat) ∧
  (∀ b : Block, b.resident = .gpio → pullO b b.lat.pin.toNat = (if b.lat.edge = .rising then .down else .up)) ∧
  (∀ (i : Instr) (s t : State) (p : Nat), i ≠ .cmdArm → exec i s = .next t → pullO t.blk p = pullO s.blk p) ∧
  (∀ (P : Params) (inp : Inputs) (b : Block) (p : Nat), pullO (hwStep P inp b) p = pullO b p) ∧
  (∀ (s t : State) (p : Nat), step s = .next t → pullO t.blk p ≠ pullO s.blk p →
    ∃ T rest, s.host = .txn 32 T :: rest ∧ decode T = .ok .cmdArm)

/-- The idle condition (R272): disarmed with the generator stopped, a cycle leaves the state unchanged. -/
def Obligations.IdleBlockIsStill : Prop :=
  ∀ (P : Params) (inp : Inputs) (b : Block), b.Inv P → b.armed = false → b.pg.st = .stopped → hwStep P inp b = b

/-! ### Trigger detectors (40_trigger_detector.md) -/

/-- Fire (R131): a detector that fires sets FIRED and RELEASE and goes to its DONE state. -/
def Obligations.FireSetsFiredAndRelease : Prop :=
  ∀ (P : Params) (inp : Inputs) (b : Block), (detStep P inp b).fired = true →
    (hwStep P inp b).fired = true ∧ (hwStep P inp b).release = true ∧
    ((b.gd.running = true ∧ (hwStep P inp b).gd.st = .done) ∨ (b.ud.running = true ∧ (hwStep P inp b).ud.st = .done))

/-- A fire and a consume never meet in one cycle (R172), and at most one detector runs (R93, R130). -/
def Obligations.FireAndConsumeNeverMeet : Prop :=
  ∀ (P : Params) (inp : Inputs) (b : Block), b.Inv P → b.Ranges P →
    ¬(b.gd.running = true ∧ b.ud.running = true) ∧ ((detStep P inp b).fired = true → consumes b = false)

/-- A detector's DONE state does nothing in every later cycle (R132): it never fires again, whatever the inputs. -/
def Obligations.DoneDetectorIsInert : Prop :=
  ∀ (P : Params) (inp : Nat → Inputs) (b : Block) (n : Nat), b.gd.running = false → b.ud.running = false →
    (hwRun P inp n b).gd = b.gd ∧ (hwRun P inp n b).ud = b.ud ∧ (hwRun P inp n b).fired = b.fired ∧
    (detStep P (inp n) (hwRun P inp n b)).fired = false

/-- With trigger kind None only EXECUTE can release the generator (R133): after ARM the block waits through every
cycle, whatever the inputs. -/
def Obligations.KindNoneWaits : Prop :=
  ∀ (P : Params) (inp : Nat → Inputs) (b : Block) (n : Nat), b.armed = false → b.cfg.kind = .none →
    hwRun P inp n (armCommand P b) = armCommand P b ∧ (armCommand P b).pg.st = .wait ∧
    (armCommand P b).gd.st = .off ∧ (armCommand P b).ud.st = .off ∧ (armCommand P b).fired = false

/-- GPIO detection and its latency (R134 to R136), on the line trig_in[LAT.pin], whose active level is 1 for rising and
0 for falling. The detector starts in G_WAIT_ACTIVE (i = 0), or in G_WAIT_IDLE with the line still active up to its
first idle sample in cycle i; no P_DEBOUNCE samples in a row are active before cycle e, the one before it is idle, and
in e to e + P_DEBOUNCE − 1 all are active. Then it fires in cycle e + P_DEBOUNCE − 1 and not before, RELEASE is
consumed in the next cycle, and with at least one pulse the first active output cycle is the fire's + 2 + P. -/
def Obligations.GpioLatency : Prop :=
  ∀ (P : Params) (inp : Nat → Inputs) (b : Block) (p c w g : Word) (i e : Nat), P.Legal →
    b.ud.running = false → b.fired = false → b.release = false → b.pg.st = .wait → b.q = [p, c, w, g] →
    let sample (m : Nat) : Bool := (inp m).trig.getLsbD b.lat.pin.toNat
    let active : Bool := match b.lat.edge with | .rising => true | .falling => false
    ((b.gd.st = .waitActive ∧ i = 0) ∨ (b.gd.st = .waitIdle ∧ (∀ m < i, sample m = active) ∧ sample i ≠ active)) →
    i ≤ e → (∀ m, i ≤ m → m + P.debounce ≤ e → ∃ j < P.debounce, sample (m + j) ≠ active) →
    (e = 0 ∨ sample (e - 1) ≠ active) → (∀ j < P.debounce, sample (e + j) = active) →
    (∀ m < e + P.debounce, (hwRun P inp m b).fired = false) ∧
    (∀ m ≥ e + P.debounce, (hwRun P inp m b).fired = true ∧ (hwRun P inp m b).gd.st = .done) ∧
    (hwRun P inp (e + P.debounce) b).release = true ∧ (hwRun P inp (e + P.debounce + 1) b).release = false ∧
    (∀ m < e + P.debounce + 1 + p.toNat, (hwRun P inp m b).active = false) ∧
    (c ≠ 0xFFFFFFFF → (hwRun P inp (e + P.debounce + 1 + p.toNat) b).active = true)

/-- Debounce (R304, R135 item 2): where no P_DEBOUNCE consecutive samples of trig_in[LAT.pin] are all at the active
level (1 for rising, 0 for falling), the GPIO detector never fires. -/
def Obligations.ShortGpioPulseNeverFires : Prop :=
  ∀ (P : Params) (inp : Nat → Inputs) (b : Block), b.gd.st = .waitIdle ∨ b.gd.st = .waitActive →
    b.ud.running = false → b.fired = false →
    (∀ m, ∃ j < P.debounce, (inp (m + j)).trig.getLsbD b.lat.pin.toNat ≠ decide (b.lat.edge = .rising)) →
    ∀ n, (hwRun P inp n b).fired = false

/-- A line at the active level (1 for rising, 0 for falling) at ARM and stuck there never fires (R303, R135 item 1),
while the generator waits. -/
def Obligations.StuckGpioLineNeverFires : Prop :=
  ∀ (P : Params) (inp : Nat → Inputs) (b : Block), armCheck P b = .ok → b.cfg.kind = .gpio →
    (∀ m, (inp m).trig.getLsbD b.cfg.pin.toNat = decide (b.cfg.edge = .rising)) →
    ∀ n, hwRun P inp n (armCommand P b) = armCommand P b

/-- UART detection (R141 to R147), from a cycle 0 that is a tick, d being LAT.div. The levels (idle 1, start bit 0) and
the bit order (least significant first) are the spec's general knowledge and not its source's (R140, R143; log 15,
PRESUMED).
Ticks fall in every d-th cycle. U_WAIT_IDLE is left at the first tick that sees the line high, U_WAIT_START at the first
that sees it low; a start bit that is high again four ticks later is a false start and leads back to U_WAIT_START. From
U_WAIT_START on a tick that sees the line low (T0, cycle 0), with the line low at tick 4 and the bits of `v` at ticks
12 + 8i, nothing fires up to cycle 68 × d; in that cycle the detector fires exactly if v = LAT.byte, RELEASE is then
consumed in the next cycle, and on a mismatch the detector waits for the line to be idle. -/
def Obligations.UartByteDecode : Prop :=
  ∀ (P : Params) (inp : Nat → Inputs) (b : Block), b.ud.tc = 0 → b.lat.div ≠ 0 →
    b.gd.running = false → b.fired = false → b.release = false → b.pg.st = .wait →
    let d := b.lat.div.toNat
    (∀ m, (hwRun P inp m b).ud.running = true → ((hwRun P inp m b).ud.tc = 0 ↔ m % d = 0)) ∧
    (∀ n, b.ud.st = .waitIdle → (∀ j < n, (inp (j * d)).uartRx = false) → (inp (n * d)).uartRx = true →
      (∀ m ≤ n * d, (hwRun P inp m b).ud.st = .waitIdle) ∧ (hwRun P inp (n * d + 1) b).ud.st = .waitStart) ∧
    (∀ n, b.ud.st = .waitStart → (∀ j < n, (inp (j * d)).uartRx = true) → (inp (n * d)).uartRx = false →
      (∀ m ≤ n * d, (hwRun P inp m b).ud.st = .waitStart) ∧ (hwRun P inp (n * d + 1) b).ud.st = .start) ∧
    (b.ud.st = .waitStart → (inp 0).uartRx = false → (inp (4 * d)).uartRx = true →
      (∀ m, 1 ≤ m → m ≤ 4 * d → (hwRun P inp m b).ud.st = .start) ∧
      (hwRun P inp (4 * d + 1) b).ud.st = .waitStart ∧ (hwRun P inp (4 * d + 1) b).fired = false) ∧
    (∀ v : Byte, b.ud.st = .waitStart → (inp 0).uartRx = false → (inp (4 * d)).uartRx = false →
      (∀ i < 8, (inp ((12 + 8 * i) * d)).uartRx = v.getLsbD i) →
      (∀ m ≤ 68 * d, (hwRun P inp m b).fired = false) ∧
      (let b' := hwRun P inp (68 * d + 1) b
       let b'' := hwRun P inp (68 * d + 2) b
       b'.ud.sh = v ∧
       (v = b.lat.byte → b'.fired = true ∧ b'.release = true ∧ b'.ud.st = .done ∧
         (b''.pg, b''.q) = startSequence P b.pg b.q ∧ b''.release = false) ∧
       (v ≠ b.lat.byte → b'.fired = false ∧ b'.release = false ∧ b'.ud.st = .waitIdle ∧ b'.pg = b.pg)))

/-- Only the resident variant's line is read (R135 item 5, R148): two input sequences that agree on bit LAT.pin of
trig_in where the GPIO detector runs, and on `uart_rx` where the UART detector runs, give the same run. -/
def Obligations.UnselectedInputsDoNotMatter : Prop :=
  ∀ (P : Params) (inp inp' : Nat → Inputs) (b : Block),
    (b.gd.running = true → ∀ m, (inp m).trig.getLsbD b.lat.pin.toNat = (inp' m).trig.getLsbD b.lat.pin.toNat) →
    (b.ud.running = true → ∀ m, (inp m).uartRx = (inp' m).uartRx) →
    ∀ n, hwRun P inp n b = hwRun P inp' n b

/-! ### Controller (42_controller.md) -/

/-- ARM (R190 to R192, R266): the checks in their order, each failure leaving all but RESULT, and the effects of a
success, element by element; the elements not named stay. -/
def Obligations.ArmChecksAndEffects : Prop :=
  (∀ (P : Params) (b : Block), armCommand P b =
    if b.armed = true then { b with result := .errState }
    else if b.cfg.kind = .gpio ∧ P.numPins ≤ b.cfg.pin.toNat then { b with result := .errConfig }
    else if (b.cfg.kind = .gpio ∧ P.availableGpio = false) ∨ (b.cfg.kind = .uart ∧ P.availableUart = false) then
      { b with result := .errResource }
    else
      { b with
        armed := true, fired := false, release := false
        q := [b.cfg.pause, b.cfg.count - 1, b.cfg.width, b.cfg.gap]
        pg := ⟨.wait, 0, 0, 0, 0⟩
        gd := ⟨if b.cfg.kind = .gpio then .waitIdle else .off, 0⟩
        ud := ⟨if b.cfg.kind = .uart then .waitIdle else .off, 0, 0, 0, 0⟩
        resident := b.cfg.kind
        lat := ⟨b.cfg.pin, b.cfg.edge, b.cfg.byte, b.cfg.uartdiv⟩
        result := .ok }) ∧
  (∀ s : State, exec .cmdArm s =
    .next { s with blk := armCommand Config.params s.blk, resp := some ⟨0, false⟩ })

/-- ARM twice (R207): after a success the second ARM fails with ERR_STATE, and only RESULT differs. -/
def Obligations.ArmTwiceFails : Prop :=
  ∀ (P : Params) (b : Block), armCheck P b = .ok →
    (armCommand P b).result = .ok ∧ (armCommand P b).armed = true ∧
    armCommand P (armCommand P b) = { armCommand P b with result := .errState }

/-- DISARM (R193, R194): armed, the signals, detectors and queue are cleared and a waiting generator stops; disarmed,
only RESULT is written. -/
def Obligations.DisarmEffects : Prop :=
  ∀ s : State, exec .cmdDisarm s =
    .next { s with
      resp := some ⟨0, false⟩
      blk := if s.blk.armed = true then
          { s.blk with
            armed := false, release := false, q := [], gd := ⟨.off, 0⟩, ud := ⟨.off, 0, 0, 0, 0⟩
            pg := if s.blk.pg.st = .wait then { s.blk.pg with st := .stopped } else s.blk.pg
            result := .ok }
        else { s.blk with result := .ok } }

/-- DISARM twice gives the same state as once (R194). -/
def Obligations.DisarmIsIdempotent : Prop :=
  ∀ s : State, ∃ t, exec .cmdDisarm s = .next t ∧ exec .cmdDisarm t = .next t ∧ t.blk.armed = false

/-- EXECUTE (R195, R196): disarmed, only RESULT is written; armed, FIRED is set, a waiting generator starts its
sequence, GCOUNT rises by 1 modulo 2^32, and the disarm effects follow, which leave the started sequence running. -/
def Obligations.ExecuteEffects : Prop :=
  (∀ (P : Params) (b : Block), b.armed = false → executeCommand P b = { b with result := .errState }) ∧
  (∀ (P : Params) (b : Block), b.armed = true → executeCommand P b =
    { b with
      armed := false, fired := true, release := false, q := [], gcount := b.gcount + 1
      gd := ⟨.off, 0⟩, ud := ⟨.off, 0, 0, 0, 0⟩
      pg := if b.pg.st = .wait then (startSequence P b.pg b.q).1 else b.pg
      result := .ok }) ∧
  (∀ s : State, exec .cmdExecute s =
    .next { s with blk := executeCommand Config.params s.blk, resp := some ⟨0, false⟩ })

/-- RESET (R198, R199): the disarm effects where armed, then CFG, AUX, GCOUNT, FIRED and RESULT at their defaults;
RESIDENT, LAT and a running sequence stay. -/
def Obligations.ResetEffects : Prop :=
  (∀ (P : Params) (b : Block), resetCommand P b =
    { b with
      cfg := { pause := 0, width := 100, gap := 100, count := 1, kind := .none, pin := 0xFF, edge := .rising,
               byte := 0, uartdiv := P.uartdivReset, outEn := true, invEn := false }
      armed := false, aux := 0, gcount := 0, fired := false, result := .ok
      release := if b.armed = true then false else b.release
      q := if b.armed = true then [] else b.q
      gd := if b.armed = true then ⟨.off, 0⟩ else b.gd
      ud := if b.armed = true then ⟨.off, 0, 0, 0, 0⟩ else b.ud
      pg := if b.armed = true ∧ b.pg.st = .wait then { b.pg with st := .stopped } else b.pg }) ∧
  (∀ s : State, exec .cmdReset s =
    .next { s with blk := resetCommand Config.params s.blk, resp := some ⟨0, false⟩ })

/-- RESET against power-on reset (R291): in every state with the invariants they give the same of everything but
RESIDENT, LAT and PG; RESIDENT and LAT stay, and PG does too but that a waiting or stopped generator is stopped. -/
def Obligations.ResetAgainstPowerOn : Prop :=
  ∀ (P : Params) (b : Block), b.Inv P → b.Ranges P →
    let r := resetCommand P b
    let z := Block.reset P
    r = { z with resident := b.resident, lat := b.lat, pg := r.pg } ∧
    (b.Firing → r.pg = b.pg) ∧ (¬b.Firing → r.pg = { b.pg with st := .stopped })

/-- POLL (R202): armed with an empty queue it counts one glitch and disarms; otherwise only RESULT is written. A fire is
counted once (R203 item 4). -/
def Obligations.PollCountsOnce : Prop :=
  (∀ s : State, exec .cmdPoll s =
    .next { s with
      resp := some ⟨0, false⟩
      blk := if s.blk.armed = true ∧ s.blk.q = [] then
          { s.blk with
            armed := false, release := false, gcount := s.blk.gcount + 1
            gd := ⟨.off, 0⟩, ud := ⟨.off, 0, 0, 0, 0⟩
            pg := if s.blk.pg.st = .wait then { s.blk.pg with st := .stopped } else s.blk.pg
            result := .ok }
        else { s.blk with result := .ok } }) ∧
  (∀ s : State, ∃ t, exec .cmdPoll s = .next t ∧ exec .cmdPoll t = .next t)

/-- Failures (R206): every command goes on with a next state and ERR = 0, so none raises BusError or a trap; one that
fails leaves every state element except RESULT unchanged; RESULT then gives the reason; and a successful ARM has cleared
FIRED and RELEASE. -/
def Obligations.FailingCommandChangesOnlyResult : Prop :=
  ∀ (i : Instr) (s : State), i.isCommand = true → ∃ t, exec i s = .next t ∧ t.resp = some ⟨0, false⟩ ∧
    (t.blk.result ≠ .ok →
      t = { s with blk := { s.blk with result := t.blk.result }, resp := some ⟨0, false⟩ }) ∧
    (t.blk.result = .errState ↔ (i = .cmdArm ∧ s.blk.armed = true) ∨ (i = .cmdExecute ∧ s.blk.armed = false)) ∧
    (t.blk.result = .errConfig ↔ i = .cmdArm ∧ s.blk.armed = false ∧ s.blk.cfg.kind = .gpio ∧
      Config.params.numPins ≤ s.blk.cfg.pin.toNat) ∧
    (t.blk.result = .errResource ↔ i = .cmdArm ∧ s.blk.armed = false ∧
      ((s.blk.cfg.kind = .gpio ∧ s.blk.cfg.pin.toNat < Config.params.numPins ∧ Config.params.availableGpio = false) ∨
        (s.blk.cfg.kind = .uart ∧ Config.params.availableUart = false))) ∧
    (t.blk.result = .errIllegal ↔ ∃ data, i = .cmdIllegal data) ∧
    (i = .cmdArm → t.blk.result = .ok → t.blk.fired = false ∧ t.blk.release = false)

/-- The codes each command gives (R261), and that no other transaction, one answered with BusError included (R262), and
no cycle changes RESULT (R46, R260). -/
def Obligations.ResultCodes : Prop :=
  (∀ s t : State, exec .cmdArm s = .next t → t.blk.result =
    if s.blk.armed = true then .errState
    else if s.blk.cfg.kind = .gpio ∧ Config.params.numPins ≤ s.blk.cfg.pin.toNat then .errConfig
    else if (s.blk.cfg.kind = .gpio ∧ Config.params.availableGpio = false) ∨
        (s.blk.cfg.kind = .uart ∧ Config.params.availableUart = false) then .errResource
    else .ok) ∧
  (∀ s t : State, exec .cmdExecute s = .next t →
    t.blk.result = if s.blk.armed = true then .ok else .errState) ∧
  (∀ (i : Instr) (s t : State), i = .cmdDisarm ∨ i = .cmdReset ∨ i = .cmdPoll → exec i s = .next t →
    t.blk.result = .ok) ∧
  (∀ (data : Word) (s t : State), exec (.cmdIllegal data) s = .next t → t.blk.result = .errIllegal) ∧
  (∀ (i : Instr) (s t : State), i.isCommand = false → exec i s = .next t → t.blk.result = s.blk.result) ∧
  (∀ (P : Params) (inp : Inputs) (b : Block), (hwStep P inp b).result = b.result) ∧
  (∀ (s : State) (bits : Nat) (T : Trans) (rest : List HostLine) (cause : BusCause), s.host = .txn bits T :: rest →
    decodeAccess bits T = .error cause → ∃ t, step s = .next t ∧ t.blk.result = s.blk.result)

/-- DISARM at a boundary where the generator still waits prevents every pulse (R265, R300): until another ARM the
normal output's source is never active, even when a detector has fired. -/
def Obligations.DisarmPreventsPulse : Prop :=
  ∀ (s t u : State) (k : Nat), s.NoArm → s.blk.Inv Config.params → s.blk.pg.st = .wait → exec .cmdDisarm s = .next t →
    Reaches k t u → u.blk.active = false

/-! ### Who writes what (R34, R35, R42 to R46) -/

/-- ARMED is written only by the controller commands ARM, DISARM, EXECUTE, POLL and RESET (R34), and set only by ARM. -/
def Obligations.ArmedWriters : Prop :=
  ∀ s t : State, step s = .next t → t.blk.armed ≠ s.blk.armed →
    ∃ T rest i, s.host = .txn 32 T :: rest ∧ decode T = .ok i ∧
      (if t.blk.armed = true then i = .cmdArm
       else i = .cmdDisarm ∨ i = .cmdExecute ∨ i = .cmdPoll ∨ i = .cmdReset)

/-- FIRED rises only by a detector's fire or EXECUTE and falls only by ARM or RESET (R35, R301). -/
def Obligations.FiredWriters : Prop :=
  ∀ s t : State, step s = .next t → t.blk.fired ≠ s.blk.fired →
    if t.blk.fired = true then
      ((s.host.head? = some .wait ∨ s.host = []) ∧ (detStep Config.params s.inputsNow s.blk).fired = true) ∨
      (∃ T rest, s.host = .txn 32 T :: rest ∧ decode T = .ok .cmdExecute)
    else ∃ T rest i, s.host = .txn 32 T :: rest ∧ decode T = .ok i ∧ (i = .cmdArm ∨ i = .cmdReset)

/-- GCOUNT is incremented only by EXECUTE and POLL, modulo 2^32, and otherwise only set to 0, by RESET (R44). -/
def Obligations.GcountWriters : Prop :=
  ∀ s t : State, step s = .next t → t.blk.gcount ≠ s.blk.gcount →
    ∃ T rest i, s.host = .txn 32 T :: rest ∧ decode T = .ok i ∧
      (((i = .cmdExecute ∨ i = .cmdPoll) ∧ t.blk.gcount = s.blk.gcount + 1) ∨ (i = .cmdReset ∧ t.blk.gcount = 0))

/-- RESIDENT and LAT change only by ARM (R42, R43), which copies them from CFG. -/
def Obligations.ResidentAndLatWriters : Prop :=
  ∀ s t : State, step s = .next t → (t.blk.resident ≠ s.blk.resident ∨ t.blk.lat ≠ s.blk.lat) →
    (∃ T rest, s.host = .txn 32 T :: rest ∧ decode T = .ok .cmdArm) ∧
    t.blk.resident = s.blk.cfg.kind ∧
    t.blk.lat = ⟨s.blk.cfg.pin, s.blk.cfg.edge, s.blk.cfg.byte, s.blk.cfg.uartdiv⟩

/-- CFG is written only by host register writes and RESET (R33), AUX only by writes to FLAGS and RESET (R45), RELEASE is
set only by a detector's fire (R37), and Q is filled only by ARM (R38): any other transaction leaves it or empties it,
and a cycle leaves it or takes the four words at its head, where the generator consumes RELEASE. -/
def Obligations.ConfigAuxReleaseQueueWriters : Prop :=
  (∀ (i : Instr) (s t : State), exec i s = .next t →
    (t.blk.cfg ≠ s.blk.cfg → i = .cmdReset ∨ i.isLatchedWrite = true ∨ ∃ v, i = .wrOutctl v) ∧
    (t.blk.aux ≠ s.blk.aux → i = .cmdReset ∨ ∃ v, i = .wrFlags v) ∧
    (t.blk.release = true → s.blk.release = true) ∧
    (t.blk.q = s.blk.q ∨ t.blk.q = [] ∨
      (i = .cmdArm ∧ t.blk.q = [s.blk.cfg.pause, s.blk.cfg.count - 1, s.blk.cfg.width, s.blk.cfg.gap]))) ∧
  (∀ (P : Params) (inp : Inputs) (b : Block),
    (hwStep P inp b).cfg = b.cfg ∧ (hwStep P inp b).aux = b.aux ∧
    ((hwStep P inp b).release = true → b.release = true ∨ (detStep P inp b).fired = true) ∧
    (hwStep P inp b).q = (if b.pg.st = .wait ∧ b.release = true then b.q.drop 4 else b.q))

/-! ### Register access (43_register_access.md) -/

/-- Writes of the timing configuration (R221, R223, R225, R227): the field takes DATA whole, nothing else changes. -/
def Obligations.TimingWrites : Prop :=
  ∀ (v : Word) (s : State),
    exec (.wrPause v) s =
      .next { s with blk := { s.blk with cfg := { s.blk.cfg with pause := v } }, resp := some ⟨0, false⟩ } ∧
    exec (.wrWidth v) s =
      .next { s with blk := { s.blk with cfg := { s.blk.cfg with width := v } }, resp := some ⟨0, false⟩ } ∧
    exec (.wrGap v) s =
      .next { s with blk := { s.blk with cfg := { s.blk.cfg with gap := v } }, resp := some ⟨0, false⟩ } ∧
    exec (.wrCount v) s =
      .next { s with blk := { s.blk with cfg := { s.blk.cfg with count := v } }, resp := some ⟨0, false⟩ }

/-- Writes of the trigger configuration (R229, R231, R233, R235), by the value of DATA's fields: a reserved KIND 3 and a
divider 0 keep the old value, the other bits are ignored, and nothing else changes. -/
def Obligations.TriggerWrites : Prop :=
  ∀ (v : Word) (s : State),
    (∃ kind, exec (.wrTrigkind v) s =
        .next { s with blk := { s.blk with cfg := { s.blk.cfg with kind := kind } }, resp := some ⟨0, false⟩ } ∧
      (v.toNat % 4 = 0 → kind = .none) ∧ (v.toNat % 4 = 1 → kind = .gpio) ∧ (v.toNat % 4 = 2 → kind = .uart) ∧
      (v.toNat % 4 = 3 → kind = s.blk.cfg.kind)) ∧
    (∃ pin edge, exec (.wrTrigpin v) s =
        .next { s with blk := { s.blk with cfg := { s.blk.cfg with pin := pin, edge := edge } },
                       resp := some ⟨0, false⟩ } ∧
      pin.toNat = v.toNat % 256 ∧ (edge = .falling ↔ v.toNat / 256 % 2 = 1)) ∧
    (∃ byte, exec (.wrTrigbyte v) s =
        .next { s with blk := { s.blk with cfg := { s.blk.cfg with byte := byte } }, resp := some ⟨0, false⟩ } ∧
      byte.toNat = v.toNat % 256) ∧
    (∃ div, exec (.wrUartdiv v) s =
        .next { s with blk := { s.blk with cfg := { s.blk.cfg with uartdiv := div } }, resp := some ⟨0, false⟩ } ∧
      (v ≠ 0 → div = v) ∧ (v = 0 → div = s.blk.cfg.uartdiv))

/-- Writes of OUTCTL and FLAGS (R237, R243): OUTCTL acts on the outputs at once (R299), FLAGS leaves ARMED alone. -/
def Obligations.OutctlAndFlagsWrites : Prop :=
  ∀ (v : Word) (s : State),
    (∃ t, exec (.wrOutctl v) s = .next t ∧
      t = { s with blk := { s.blk with cfg := { s.blk.cfg with outEn := t.blk.cfg.outEn, invEn := t.blk.cfg.invEn } },
                   resp := some ⟨0, false⟩ } ∧
      (t.blk.cfg.outEn = true ↔ v.toNat % 2 = 1) ∧ (t.blk.cfg.invEn = true ↔ v.toNat / 2 % 2 = 1) ∧
      (outO t.blk = if v.toNat % 2 = 1 then .level s.blk.active else .z) ∧
      (outnO t.blk = if v.toNat / 2 % 2 = 1 then .level (!s.blk.active) else .z)) ∧
    (∃ aux, exec (.wrFlags v) s = .next { s with blk := { s.blk with aux := aux }, resp := some ⟨0, false⟩ } ∧
      aux.toNat = v.toNat % 16)

/-- Reads return their register, zero-extended, and change nothing (R89, R220, R222 to R241): all but STATUS and
FLAGS. -/
def Obligations.ReadsReturnTheirRegister : Prop :=
  ∀ s : State,
    exec .rdCmd s = .next { s with resp := some ⟨0, false⟩ } ∧
    exec .rdPause s = .next { s with resp := some ⟨s.blk.cfg.pause, false⟩ } ∧
    exec .rdWidth s = .next { s with resp := some ⟨s.blk.cfg.width, false⟩ } ∧
    exec .rdGap s = .next { s with resp := some ⟨s.blk.cfg.gap, false⟩ } ∧
    exec .rdCount s = .next { s with resp := some ⟨s.blk.cfg.count, false⟩ } ∧
    exec .rdGcount s = .next { s with resp := some ⟨s.blk.gcount, false⟩ } ∧
    exec .rdUartdiv s = .next { s with resp := some ⟨s.blk.cfg.uartdiv, false⟩ } ∧
    (∃ v, exec .rdTrigkind s = .next { s with resp := some ⟨v, false⟩ } ∧
      v.toNat = match s.blk.cfg.kind with | .none => 0 | .gpio => 1 | .uart => 2) ∧
    (∃ v, exec .rdTrigpin s = .next { s with resp := some ⟨v, false⟩ } ∧
      v.toNat = s.blk.cfg.pin.toNat + if s.blk.cfg.edge = .falling then 256 else 0) ∧
    (∃ v, exec .rdTrigbyte s = .next { s with resp := some ⟨v, false⟩ } ∧ v.toNat = s.blk.cfg.byte.toNat) ∧
    (∃ v, exec .rdOutctl s = .next { s with resp := some ⟨v, false⟩ } ∧
      v.toNat = (if s.blk.cfg.outEn = true then 1 else 0) + (if s.blk.cfg.invEn = true then 2 else 0))

/-- RD STATUS (R50, R239): each field in its bits, all other bits 0, nothing changed; RESULT is the number R260 gives the
code, RESIDENT the number R42 gives the variant. -/
def Obligations.StatusFields : Prop :=
  ∀ s : State, s.blk.q.length ≤ 4 → ∃ v : Word, exec .rdStatus s = .next { s with resp := some ⟨v, false⟩ } ∧
    (v.extractLsb' 0 3).toNat = (match s.blk.result with
      | .ok => 0 | .errState => 1 | .errResource => 2 | .errConfig => 3 | .errIllegal => 4) ∧
    v.getLsbD 3 = false ∧ v.getLsbD 4 = s.blk.armed ∧
    v.getLsbD 5 = s.blk.fired ∧ v.extractLsb' 6 2 = 0 ∧ (v.extractLsb' 8 3).toNat = s.blk.q.length ∧
    v.getLsbD 11 = false ∧
    (v.extractLsb' 12 2).toNat = (match s.blk.resident with | .none => 0 | .gpio => 1 | .uart => 2) ∧
    v.extractLsb' 14 18 = 0

/-- RD FLAGS (R59, R242): the AUX bits at 0 to 3, ARMED at 4, all other bits 0, nothing changed. -/
def Obligations.FlagsFields : Prop :=
  ∀ s : State, ∃ v : Word, exec .rdFlags s = .next { s with resp := some ⟨v, false⟩ } ∧
    v.extractLsb' 0 4 = s.blk.aux ∧ v.getLsbD 4 = s.blk.armed ∧ v.extractLsb' 5 27 = 0

/-- A read at the same boundary sees the transaction before it (R306): every writable register, with reserved bits read
as 0 and reserved values not taken (R86), and RD STATUS after ARM, which gives the ARM's RESULT (R190, R260). -/
def Obligations.ReadAfterWrite : Prop :=
  (∀ (v : Word) (s : State), ∃ t u, exec (.wrPause v) s = .next t ∧ exec .rdPause t = .next u ∧
    u.resp = some ⟨v, false⟩) ∧
  (∀ (v : Word) (s : State), ∃ t u, exec (.wrWidth v) s = .next t ∧ exec .rdWidth t = .next u ∧
    u.resp = some ⟨v, false⟩) ∧
  (∀ (v : Word) (s : State), ∃ t u, exec (.wrGap v) s = .next t ∧ exec .rdGap t = .next u ∧
    u.resp = some ⟨v, false⟩) ∧
  (∀ (v : Word) (s : State), ∃ t u, exec (.wrCount v) s = .next t ∧ exec .rdCount t = .next u ∧
    u.resp = some ⟨v, false⟩) ∧
  (∀ (v : Word) (s : State), ∃ t u, exec (.wrUartdiv v) s = .next t ∧ exec .rdUartdiv t = .next u ∧
    u.resp = some ⟨if v = 0 then s.blk.cfg.uartdiv else v, false⟩) ∧
  (∀ (v : Word) (s : State), ∃ t u, exec (.wrTrigpin v) s = .next t ∧ exec .rdTrigpin t = .next u ∧
    u.resp = some ⟨v &&& 0x1FF, false⟩) ∧
  (∀ (v : Word) (s : State), ∃ t u, exec (.wrTrigbyte v) s = .next t ∧ exec .rdTrigbyte t = .next u ∧
    u.resp = some ⟨v &&& 0xFF, false⟩) ∧
  (∀ (v : Word) (s : State), ∃ t u, exec (.wrOutctl v) s = .next t ∧ exec .rdOutctl t = .next u ∧
    u.resp = some ⟨v &&& 3, false⟩) ∧
  (∀ (v : Word) (s : State), ∃ t u, exec (.wrFlags v) s = .next t ∧ exec .rdFlags t = .next u ∧
    u.resp = some ⟨(v &&& 0xF) ||| (if s.blk.armed = true then 0x10 else 0), false⟩) ∧
  (∀ (v : Word) (s : State), v &&& 3 ≠ 3 → ∃ t u, exec (.wrTrigkind v) s = .next t ∧ exec .rdTrigkind t = .next u ∧
    u.resp = some ⟨v &&& 3, false⟩) ∧
  (∀ (v : Word) (s r : State), v &&& 3 = 3 → exec .rdTrigkind s = .next r → ∃ t u, exec (.wrTrigkind v) s = .next t ∧
    exec .rdTrigkind t = .next u ∧ u.resp = r.resp) ∧
  (∀ s : State, ∃ t u v, exec .cmdArm s = .next t ∧ exec .rdStatus t = .next u ∧ u.resp = some ⟨v, false⟩ ∧
    (v.extractLsb' 0 3).toNat =
      (if s.blk.armed = true then 1
       else if s.blk.cfg.kind = .gpio ∧ Config.params.numPins ≤ s.blk.cfg.pin.toNat then 3
       else if (s.blk.cfg.kind = .gpio ∧ Config.params.availableGpio = false) ∨
           (s.blk.cfg.kind = .uart ∧ Config.params.availableUart = false) then 2
       else 0))

/-- What the host cannot see (R271): two states that agree on the host's view give the same RDATA for every read. -/
def Obligations.HiddenStateIsInvisible : Prop :=
  ∀ (i : Instr) (s s' t t' : State), i.isRead = true → s.blk.hostView = s'.blk.hostView → exec i s = .next t →
    exec i s' = .next t' → t.resp = t'.resp

/-- The armed cycle does not read CFG (R173, R244, R296): whatever is written to CFG after ARM, every later cycle,
EXECUTE, POLL and DISARM does the same to the rest of the block. The snapshot at ARM is a choice of the spec (D12), a
stronger guarantee than its source gives (93 U2; log 14, DESIGN CHOICE of the spec). -/
def Obligations.ArmedCycleIgnoresConfig : Prop :=
  ∀ (P : Params) (inp : Nat → Inputs) (b : Block) (c : Cfg),
    (∀ n, hwRun P inp n { b with cfg := c } = { hwRun P inp n b with cfg := c }) ∧
    executeCommand P { b with cfg := c } = { executeCommand P b with cfg := c } ∧
    pollCommand { b with cfg := c } = { pollCommand b with cfg := c } ∧
    disarmCommand { b with cfg := c } = { disarmCommand b with cfg := c }

/-! ### The API (R110 to R112) -/

/-- arm() and execute() return true exactly when the command succeeded, and get_count() counts a released generator,
disarms, and returns GCOUNT (R110, R112). -/
def Obligations.ApiReturnsFollowTheCommands : Prop :=
  (∀ s : State, ∃ t ok, ApiCall.arm.run s = some (t, .success ok) ∧
    (ok = true ↔ armCheck Config.params s.blk = .ok) ∧ t.blk = armCommand Config.params s.blk) ∧
  (∀ s : State, ∃ t ok, ApiCall.execute.run s = some (t, .success ok) ∧ (ok = true ↔ s.blk.armed = true) ∧
    t.blk = executeCommand Config.params s.blk) ∧
  (∀ s : State, ∃ t, ApiCall.getCount.run s = some (t, .count t.blk.gcount) ∧
    t.blk.gcount = s.blk.gcount + (if s.blk.armed = true ∧ s.blk.q = [] then 1 else 0) ∧
    (s.blk.q = [] → t.blk.armed = false))

/-- The assembler (R108, R109): each line puts on the bus the one transaction it names, which decodes to the instruction
of that name (a write of STATUS or GCOUNT to none), a WAIT puts n cycles there; and the text of each line is read as that
line, with every number, decimal or hexadecimal, that fits its field. That a number may have zeros before it and its
hexadecimal digits either case is the model's choice (log 18). -/
def Obligations.AssembledLinesDecode : Prop :=
  (∀ c : Command, ∃ T, (AsmLine.cmd c).lines = [.txn 32 T] ∧ decode T = .ok (match c with
    | .arm => .cmdArm | .disarm => .cmdDisarm | .execute => .cmdExecute | .reset => .cmdReset | .poll => .cmdPoll)) ∧
  (∀ r : Reg, ∃ T, (AsmLine.rd r).lines = [.txn 32 T] ∧ decode T = .ok (match r with
    | .cmd => .rdCmd | .status => .rdStatus | .pause => .rdPause | .width => .rdWidth | .gap => .rdGap
    | .count => .rdCount | .trigkind => .rdTrigkind | .trigpin => .rdTrigpin | .trigbyte => .rdTrigbyte
    | .gcount => .rdGcount | .flags => .rdFlags | .outctl => .rdOutctl | .uartdiv => .rdUartdiv)) ∧
  (∀ (r : Reg) (v : Word), ∃ T, (AsmLine.wr r v).lines = [.txn 32 T] ∧ decode T = (match r with
    | .cmd => .ok (decodeCommand v) | .status => .error (.readOnly 0x04) | .pause => .ok (.wrPause v)
    | .width => .ok (.wrWidth v) | .gap => .ok (.wrGap v) | .count => .ok (.wrCount v)
    | .trigkind => .ok (.wrTrigkind v) | .trigpin => .ok (.wrTrigpin v) | .trigbyte => .ok (.wrTrigbyte v)
    | .gcount => .error (.readOnly 0x24) | .flags => .ok (.wrFlags v) | .outctl => .ok (.wrOutctl v)
    | .uartdiv => .ok (.wrUartdiv v))) ∧
  (∀ (o : Offset) (v : Word), (AsmLine.wrAt o v).lines = [.txn 32 (mkTrans true o v)] ∧
    (AsmLine.rdAt o).lines = [.txn 32 (mkTrans false o 0)]) ∧
  (∀ n : Nat, (AsmLine.wait n).lines = List.replicate n .wait) ∧
  (∀ c : Command, readLine ("CMD ".toList ++ c.name.toList) = some (.cmd c)) ∧
  (∀ r : Reg, readLine ("RD ".toList ++ r.name.toList) = some (.rd r)) ∧
  (∀ (r : Reg) (text : List Char) (n : Nat), IsNumberText text n → n < 2 ^ 32 →
    readLine ("WR ".toList ++ r.name.toList ++ ", ".toList ++ text) = some (.wr r (BitVec.ofNat 32 n))) ∧
  (∀ (text text' : List Char) (n n' : Nat), IsNumberText text n → n < 2 ^ 8 → IsNumberText text' n' → n' < 2 ^ 32 →
    readLine ("RD @".toList ++ text) = some (.rdAt (BitVec.ofNat 8 n)) ∧
    readLine ("WR @".toList ++ text ++ ", ".toList ++ text') =
      some (.wrAt (BitVec.ofNat 8 n) (BitVec.ofNat 32 n'))) ∧
  (∀ (text : List Char) (n : Nat), IsDigits 10 text n → readLine ("WAIT ".toList ++ text) = some (.wait n)) ∧
  (∀ (text : List Char) (n : Nat), IsNumberText text n → n < 2 ^ 8 →
    readLine ("WR TRIGPIN, pin=".toList ++ text ++ ", edge=rising".toList) = some (.wr .trigpin (BitVec.ofNat 32 n)) ∧
    readLine ("WR TRIGPIN, pin=".toList ++ text ++ ", edge=falling".toList) =
      some (.wr .trigpin (BitVec.ofNat 32 (256 + n)))) ∧
  readLine "WR TRIGPIN, pin=none, edge=rising".toList = some (.wr .trigpin 0xFF) ∧
  readLine "WR TRIGPIN, pin=none, edge=falling".toList = some (.wr .trigpin 0x1FF) ∧
  readLine "WR TRIGKIND, none".toList = some (.wr .trigkind 0) ∧
  readLine "WR TRIGKIND, gpio".toList = some (.wr .trigkind 1) ∧
  readLine "WR TRIGKIND, uart".toList = some (.wr .trigkind 2) ∧
  readLine "WR OUTCTL, out=0, inv=0".toList = some (.wr .outctl 0) ∧
  readLine "WR OUTCTL, out=1, inv=0".toList = some (.wr .outctl 1) ∧
  readLine "WR OUTCTL, out=0, inv=1".toList = some (.wr .outctl 2) ∧
  readLine "WR OUTCTL, out=1, inv=1".toList = some (.wr .outctl 3)
end

