-- ==== Sys2Proof/Laws/Config.lean ====
section
/-! SUPPORT. What is known of the parameters: their legal ranges (R9), and nothing more. -/

namespace Sys2Proof

/-- The parameters of the block are legal (R9). -/
theorem Config.params_legal : Config.params.Legal := by
  have h1 := Config.floorAbove.isLt
  have h2 := Config.debounceAbove.isLt
  have h3 := Config.numPinsAbove.isLt
  have h4 := Config.uartdivResetAbove.isLt
  refine ⟨?_, ?_, ?_, ?_, ?_, ?_, ?_, ?_⟩ <;> simp only [Config.params] <;> try omega
  intro h
  have h5 := congrArg BitVec.toNat h
  rw [show (0 : Word).toNat = 0 from rfl, BitVec.toNat_ofNat] at h5
  omega

theorem Params.Legal.floor_lt {P : Params} (h : P.Legal) : P.floor < 2 ^ 32 := by
  obtain ⟨_, h2, _⟩ := h
  omega

theorem Params.Legal.debounce_pos {P : Params} (h : P.Legal) : 1 ≤ P.debounce := h.2.2.1

theorem Params.Legal.floor_le {P : Params} (h : P.Legal) : P.floor ≤ 100 := h.2.1

theorem Params.Legal.numPins_pos {P : Params} (h : P.Legal) : 1 ≤ P.numPins := h.2.2.2.2.1

theorem Params.Legal.numPins_le {P : Params} (h : P.Legal) : P.numPins ≤ 255 := h.2.2.2.2.2.1

theorem Params.Legal.uartdivReset_ne {P : Params} (h : P.Legal) : P.uartdivReset ≠ 0 := h.2.2.2.2.2.2.1

end Sys2Proof
end

