-- ==== Sys2Proof/Laws/Decode.lean ====
section
/-! SUPPORT. The fields of a transaction word and the register map: what decoding and encoding are made of. -/

namespace Sys2Proof

/-- Bit i of a transaction: DATA below 32, ADDR below 40, then WE (R100). -/
theorem mkTrans_getLsbD (we : Bool) (addr : Offset) (data : Word) (i : Nat) :
    (mkTrans we addr data).getLsbD i =
      if i < 32 then data.getLsbD i else if i - 32 < 8 then addr.getLsbD (i - 32) else (decide (i - 32 - 8 = 0) && we) := by
  simp only [mkTrans, BitVec.getLsbD_append, BitVec.getLsbD_ofBool]

@[simp] theorem mkTrans_we (we : Bool) (addr : Offset) (data : Word) : Trans.we (mkTrans we addr data) = we := by
  rw [Trans.we, mkTrans_getLsbD]
  rfl

@[simp] theorem mkTrans_addr (we : Bool) (addr : Offset) (data : Word) :
    Trans.addr (mkTrans we addr data) = addr := by
  apply BitVec.eq_of_getLsbD_eq
  intro i hi
  have h : ¬ 32 + i < 32 := by omega
  have h' : 32 + i - 32 = i := by omega
  rw [Trans.addr, BitVec.getLsbD_extractLsb', mkTrans_getLsbD, if_neg h, h', if_pos hi, decide_eq_true hi, Bool.true_and]

@[simp] theorem mkTrans_data (we : Bool) (addr : Offset) (data : Word) :
    Trans.data (mkTrans we addr data) = data := by
  apply BitVec.eq_of_getLsbD_eq
  intro i hi
  rw [Trans.data, BitVec.getLsbD_extractLsb', Nat.zero_add, mkTrans_getLsbD, if_pos hi, decide_eq_true hi, Bool.true_and]

/-- A transaction is its three fields. -/
theorem mkTrans_eta (T : Trans) : mkTrans (Trans.we T) (Trans.addr T) (Trans.data T) = T := by
  apply BitVec.eq_of_getLsbD_eq
  intro i hi
  simp only [mkTrans, BitVec.getLsbD_append, Trans.we, Trans.addr, Trans.data, BitVec.getLsbD_extractLsb',
    BitVec.getLsbD_ofBool]
  by_cases h1 : i < 32
  · simp [h1]
  · by_cases h2 : i < 40
    · have h3 : i - 32 < 8 := by omega
      have h4 : 32 + (i - 32) = i := by omega
      simp [h1, h3, h4]
    · have h3 : i = 40 := by omega
      subst h3
      simp

@[simp] theorem Reg.ofOffset_offset (r : Reg) : Reg.ofOffset (Reg.offset r) = some r := by
  cases r <;> rfl

/-- The offsets that name a register are the registers' own. -/
theorem Reg.offset_of_ofOffset {a : Offset} {r : Reg} (h : Reg.ofOffset a = some r) : Reg.offset r = a := by
  simpa using List.find?_some h

/-- An offset that names no register is none of the registers' offsets. -/
theorem Reg.offset_ne_of_ofOffset {a : Offset} (h : Reg.ofOffset a = none) (r : Reg) : Reg.offset r ≠ a := by
  have h' := List.find?_eq_none.mp h r (by cases r <;> decide)
  simpa using h'

/-- A masked row of one register: WE and ADDR are kept, DATA cleared. -/
theorem mkTrans_and_access (we : Bool) (addr : Offset) (data : Word) :
    mkTrans we addr data &&& 0x1FF00000000 = mkTrans we addr 0 := by
  have hm : (0x1FF00000000 : Trans) = mkTrans true (BitVec.allOnes 8) 0 := by decide
  apply BitVec.eq_of_getLsbD_eq
  intro i hi
  rw [hm, BitVec.getLsbD_and, mkTrans_getLsbD, mkTrans_getLsbD, mkTrans_getLsbD]
  by_cases h1 : i < 32
  · simp [h1]
  · by_cases h2 : i - 32 < 8 <;> simp only [h1, h2, BitVec.getLsbD_allOnes, if_true, if_false] <;> simp
    intro h _
    exact h

end Sys2Proof
end

