-- ==== Sys2Proof/Laws/State.lean ====
section
/-!
SUPPORT. What each update of the state leaves and what it writes: one lemma per field per update, so that no later
proof unfolds a record update.
-/

namespace Sys2Proof.Machine

/-! ### State.respond -/

@[simp] theorem State.respond_blk (s : State) (b : Block) (r : Word) (e : Bool) : (s.respond b r e).blk = b := rfl
@[simp] theorem State.respond_host (s : State) (b : Block) (r : Word) (e : Bool) : (s.respond b r e).host = s.host := rfl
@[simp] theorem State.respond_env (s : State) (b : Block) (r : Word) (e : Bool) : (s.respond b r e).env = s.env := rfl
@[simp] theorem State.respond_cycle (s : State) (b : Block) (r : Word) (e : Bool) :
    (s.respond b r e).cycle = s.cycle := rfl
@[simp] theorem State.respond_resp (s : State) (b : Block) (r : Word) (e : Bool) :
    (s.respond b r e).resp = some ⟨r, e⟩ := rfl

/-! ### State.runCycle and State.placeWord -/

@[simp] theorem State.runCycle_blk (s : State) : s.runCycle.blk = hwStep Config.params s.inputsNow s.blk := rfl
@[simp] theorem State.runCycle_host (s : State) : s.runCycle.host = s.host := rfl
@[simp] theorem State.runCycle_env (s : State) : s.runCycle.env = s.env.tail := rfl
@[simp] theorem State.runCycle_cycle (s : State) : s.runCycle.cycle = s.cycle + 1 := rfl
@[simp] theorem State.runCycle_resp (s : State) : s.runCycle.resp = s.resp := rfl
@[simp] theorem State.placeWord_blk (s : State) (n w : Nat) : (s.placeWord n w).blk = s.blk := rfl
@[simp] theorem State.placeWord_env (s : State) (n w : Nat) : (s.placeWord n w).env = s.env := rfl
@[simp] theorem State.placeWord_cycle (s : State) (n w : Nat) : (s.placeWord n w).cycle = s.cycle := rfl
@[simp] theorem State.placeWord_resp (s : State) (n w : Nat) : (s.placeWord n w).resp = s.resp := rfl

/-! ### Block.withResult and Block.countGlitch -/

@[simp] theorem Block.withResult_cfg (b : Block) (c : ResultCode) : (b.withResult c).cfg = b.cfg := rfl
@[simp] theorem Block.withResult_armed (b : Block) (c : ResultCode) : (b.withResult c).armed = b.armed := rfl
@[simp] theorem Block.withResult_fired (b : Block) (c : ResultCode) : (b.withResult c).fired = b.fired := rfl
@[simp] theorem Block.withResult_release (b : Block) (c : ResultCode) : (b.withResult c).release = b.release := rfl
@[simp] theorem Block.withResult_q (b : Block) (c : ResultCode) : (b.withResult c).q = b.q := rfl
@[simp] theorem Block.withResult_pg (b : Block) (c : ResultCode) : (b.withResult c).pg = b.pg := rfl
@[simp] theorem Block.withResult_gd (b : Block) (c : ResultCode) : (b.withResult c).gd = b.gd := rfl
@[simp] theorem Block.withResult_ud (b : Block) (c : ResultCode) : (b.withResult c).ud = b.ud := rfl
@[simp] theorem Block.withResult_resident (b : Block) (c : ResultCode) : (b.withResult c).resident = b.resident := rfl
@[simp] theorem Block.withResult_lat (b : Block) (c : ResultCode) : (b.withResult c).lat = b.lat := rfl
@[simp] theorem Block.withResult_gcount (b : Block) (c : ResultCode) : (b.withResult c).gcount = b.gcount := rfl
@[simp] theorem Block.withResult_aux (b : Block) (c : ResultCode) : (b.withResult c).aux = b.aux := rfl
@[simp] theorem Block.withResult_result (b : Block) (c : ResultCode) : (b.withResult c).result = c := rfl

@[simp] theorem Block.countGlitch_cfg (b : Block) : b.countGlitch.cfg = b.cfg := rfl
@[simp] theorem Block.countGlitch_armed (b : Block) : b.countGlitch.armed = b.armed := rfl
@[simp] theorem Block.countGlitch_fired (b : Block) : b.countGlitch.fired = b.fired := rfl
@[simp] theorem Block.countGlitch_release (b : Block) : b.countGlitch.release = b.release := rfl
@[simp] theorem Block.countGlitch_q (b : Block) : b.countGlitch.q = b.q := rfl
@[simp] theorem Block.countGlitch_pg (b : Block) : b.countGlitch.pg = b.pg := rfl
@[simp] theorem Block.countGlitch_gd (b : Block) : b.countGlitch.gd = b.gd := rfl
@[simp] theorem Block.countGlitch_ud (b : Block) : b.countGlitch.ud = b.ud := rfl
@[simp] theorem Block.countGlitch_resident (b : Block) : b.countGlitch.resident = b.resident := rfl
@[simp] theorem Block.countGlitch_lat (b : Block) : b.countGlitch.lat = b.lat := rfl
@[simp] theorem Block.countGlitch_gcount (b : Block) : b.countGlitch.gcount = b.gcount + 1 := rfl
@[simp] theorem Block.countGlitch_aux (b : Block) : b.countGlitch.aux = b.aux := rfl
@[simp] theorem Block.countGlitch_result (b : Block) : b.countGlitch.result = b.result := rfl

/-! ### Block.disarmEffects -/

@[simp] theorem Block.disarmEffects_cfg (b : Block) : b.disarmEffects.cfg = b.cfg := rfl
@[simp] theorem Block.disarmEffects_armed (b : Block) : b.disarmEffects.armed = false := rfl
@[simp] theorem Block.disarmEffects_fired (b : Block) : b.disarmEffects.fired = b.fired := rfl
@[simp] theorem Block.disarmEffects_release (b : Block) : b.disarmEffects.release = false := rfl
@[simp] theorem Block.disarmEffects_q (b : Block) : b.disarmEffects.q = [] := rfl
@[simp] theorem Block.disarmEffects_pg (b : Block) :
    b.disarmEffects.pg = { b.pg with st := if b.pg.st = .wait then .stopped else b.pg.st } := rfl
@[simp] theorem Block.disarmEffects_gd (b : Block) : b.disarmEffects.gd = ⟨.off, 0⟩ := rfl
@[simp] theorem Block.disarmEffects_ud (b : Block) : b.disarmEffects.ud = ⟨.off, 0, 0, 0, 0⟩ := rfl
@[simp] theorem Block.disarmEffects_resident (b : Block) : b.disarmEffects.resident = b.resident := rfl
@[simp] theorem Block.disarmEffects_lat (b : Block) : b.disarmEffects.lat = b.lat := rfl
@[simp] theorem Block.disarmEffects_gcount (b : Block) : b.disarmEffects.gcount = b.gcount := rfl
@[simp] theorem Block.disarmEffects_aux (b : Block) : b.disarmEffects.aux = b.aux := rfl
@[simp] theorem Block.disarmEffects_result (b : Block) : b.disarmEffects.result = b.result := rfl

/-! ### Block.detStart -/

@[simp] theorem Block.detStart_cfg (b : Block) (k : Variant) : (b.detStart k).cfg = b.cfg := by cases k <;> rfl
@[simp] theorem Block.detStart_armed (b : Block) (k : Variant) : (b.detStart k).armed = b.armed := by cases k <;> rfl
@[simp] theorem Block.detStart_fired (b : Block) (k : Variant) : (b.detStart k).fired = b.fired := by cases k <;> rfl
@[simp] theorem Block.detStart_release (b : Block) (k : Variant) : (b.detStart k).release = b.release := by
  cases k <;> rfl
@[simp] theorem Block.detStart_q (b : Block) (k : Variant) : (b.detStart k).q = b.q := by cases k <;> rfl
@[simp] theorem Block.detStart_pg (b : Block) (k : Variant) : (b.detStart k).pg = b.pg := by cases k <;> rfl
@[simp] theorem Block.detStart_gd (b : Block) (k : Variant) :
    (b.detStart k).gd = ⟨if k = .gpio then .waitIdle else .off, 0⟩ := by cases k <;> rfl
@[simp] theorem Block.detStart_ud (b : Block) (k : Variant) :
    (b.detStart k).ud = ⟨if k = .uart then .waitIdle else .off, 0, 0, 0, 0⟩ := by cases k <;> rfl
@[simp] theorem Block.detStart_resident (b : Block) (k : Variant) : (b.detStart k).resident = b.resident := by
  cases k <;> rfl
@[simp] theorem Block.detStart_lat (b : Block) (k : Variant) : (b.detStart k).lat = b.lat := by cases k <;> rfl
@[simp] theorem Block.detStart_gcount (b : Block) (k : Variant) : (b.detStart k).gcount = b.gcount := by
  cases k <;> rfl
@[simp] theorem Block.detStart_aux (b : Block) (k : Variant) : (b.detStart k).aux = b.aux := by cases k <;> rfl
@[simp] theorem Block.detStart_result (b : Block) (k : Variant) : (b.detStart k).result = b.result := by
  cases k <;> rfl

/-! ### hwStep -/

@[simp] theorem hwStep_cfg (P : Params) (inp : Inputs) (b : Block) : (hwStep P inp b).cfg = b.cfg := rfl
@[simp] theorem hwStep_armed (P : Params) (inp : Inputs) (b : Block) : (hwStep P inp b).armed = b.armed := rfl
@[simp] theorem hwStep_fired (P : Params) (inp : Inputs) (b : Block) :
    (hwStep P inp b).fired = (b.fired || (detStep P inp b).fired) := rfl
@[simp] theorem hwStep_release (P : Params) (inp : Inputs) (b : Block) :
    (hwStep P inp b).release = ((b.release && !consumes b) || (detStep P inp b).fired) := rfl
@[simp] theorem hwStep_q (P : Params) (inp : Inputs) (b : Block) :
    (hwStep P inp b).q = (pgStep P b.release b.pg b.q).2 := rfl
@[simp] theorem hwStep_pg (P : Params) (inp : Inputs) (b : Block) :
    (hwStep P inp b).pg = (pgStep P b.release b.pg b.q).1 := rfl
@[simp] theorem hwStep_gd (P : Params) (inp : Inputs) (b : Block) : (hwStep P inp b).gd = (detStep P inp b).gd := rfl
@[simp] theorem hwStep_ud (P : Params) (inp : Inputs) (b : Block) : (hwStep P inp b).ud = (detStep P inp b).ud := rfl
@[simp] theorem hwStep_resident (P : Params) (inp : Inputs) (b : Block) : (hwStep P inp b).resident = b.resident := rfl
@[simp] theorem hwStep_lat (P : Params) (inp : Inputs) (b : Block) : (hwStep P inp b).lat = b.lat := rfl
@[simp] theorem hwStep_gcount (P : Params) (inp : Inputs) (b : Block) : (hwStep P inp b).gcount = b.gcount := rfl
@[simp] theorem hwStep_aux (P : Params) (inp : Inputs) (b : Block) : (hwStep P inp b).aux = b.aux := rfl
@[simp] theorem hwStep_result (P : Params) (inp : Inputs) (b : Block) : (hwStep P inp b).result = b.result := rfl

end Sys2Proof.Machine
end

