-- ==== Sys2Proof/Laws/Ops.lean ====
section
/-!
SUPPORT. What each shared operation can do, said once: later proofs cite these lemmas instead of unfolding the
operations.
-/

namespace Sys2Proof.Machine

/-! ### How a transaction ends -/

theorem writeDone_eq_next {s t : State} {b : Block} : writeDone s b = .next t ↔ t = s.respond b 0 false := by
  simp [writeDone, eq_comm]

theorem readDone_eq_next {s t : State} {r : Word} : readDone s r = .next t ↔ t = s.respond s.blk r false := by
  simp [readDone, eq_comm]

theorem writeCfg_eq_next {s t : State} {c : Cfg} :
    writeCfg s c = .next t ↔ t = s.respond { s.blk with cfg := c } 0 false := by
  simp [writeCfg, writeDone, eq_comm]

theorem busError_eq_next {s t : State} : busError s = .next t ↔ t = s.respond s.blk 0 true := by
  simp [busError, eq_comm]

/-! ### The schedule -/

theorem State.takeLine_nil {s : State} (h : s.host = []) : s.takeLine = (.wait, s) := by
  simp [State.takeLine, h]

theorem State.takeLine_cons {s : State} {line : HostLine} {rest : List HostLine} (h : s.host = line :: rest) :
    s.takeLine = (line, { s with host := rest }) := by
  simp [State.takeLine, h]

/-! ### The controller -/

/-- ArmEffects, element by element (R191). -/
theorem Block.armEffects_eq (b : Block) : b.armEffects =
    { b with
      armed := true, fired := false, release := false
      q := [b.cfg.pause, b.cfg.count - 1, b.cfg.width, b.cfg.gap]
      pg := ⟨.wait, 0, 0, 0, 0⟩
      gd := ⟨if b.cfg.kind = .gpio then .waitIdle else .off, 0⟩
      ud := ⟨if b.cfg.kind = .uart then .waitIdle else .off, 0, 0, 0, 0⟩
      resident := b.cfg.kind
      lat := ⟨b.cfg.pin, b.cfg.edge, b.cfg.byte, b.cfg.uartdiv⟩ } := by
  cases h : b.cfg.kind <;>
    simp [Block.armEffects, Block.detStop, Block.pgStopReset, Block.loadVariant, Block.latchDetector, Block.pgLoad,
      Block.detStart, h]

/-- ARM either takes its effects or writes RESULT alone (R190). -/
theorem armCommand_cases (P : Params) (b : Block) :
    (armCheck P b = .ok ∧ armCommand P b = b.armEffects.withResult .ok) ∨
      (armCheck P b ≠ .ok ∧ armCommand P b = b.withResult (armCheck P b)) := by
  unfold armCommand
  cases h : armCheck P b
  · exact .inl ⟨rfl, rfl⟩
  all_goals exact .inr ⟨by decide, rfl⟩

/-- The checks pass exactly when the block is disarmed, the pin of a GPIO trigger exists and the variant is available
(R190). -/
theorem armCheck_eq_ok {P : Params} {b : Block} : armCheck P b = .ok ↔
    b.armed = false ∧ ¬(b.cfg.kind = .gpio ∧ P.numPins ≤ b.cfg.pin.toNat) ∧ Params.available P b.cfg.kind = true := by
  unfold armCheck
  split
  · simp_all
  · split
    · simp_all
    · split <;> simp_all

/-- EXECUTE's release leaves everything but PG and Q (R196). -/
theorem Block.releaseDirect_eq (P : Params) (b : Block) : b.releaseDirect P =
    { b with pg := if b.pg.st = .wait then (startSequence P b.pg b.q).1 else b.pg
             q := if b.pg.st = .wait then (startSequence P b.pg b.q).2 else b.q } := by
  unfold Block.releaseDirect
  split <;> simp_all

/-! ### The generator -/

/-- BeginPulses gives HIGH or STOPPED (R165). -/
theorem Pg.beginPulses_cases (pg : Pg) :
    (0 < pg.reps.toNat ∧ pg.beginPulses = { pg with st := .high, cnt := pg.w }) ∨
      (pg.reps.toNat = 0 ∧ pg.beginPulses = { pg with st := .stopped, cnt := 0 }) := by
  unfold Pg.beginPulses
  split
  · exact .inl ⟨‹_›, rfl⟩
  · exact .inr ⟨by omega, rfl⟩

/-- StartSequence on the four words of a loaded queue (R165). -/
theorem startSequence_four (P : Params) (pg : Pg) (p c w g : Word) : startSequence P pg [p, c, w, g] =
    (if 0 < p.toNat then { pg with w := clamp P w, g := clamp P g, reps := c + 1, st := .pause, cnt := p }
     else Pg.beginPulses { pg with w := clamp P w, g := clamp P g, reps := c + 1 }, []) := rfl

/-- StartSequence takes the four words at the head of Q, or what there is of them (R165). -/
theorem startSequence_q (P : Params) (pg : Pg) (q : List Word) : (startSequence P pg q).2 = q.drop 4 := by
  match q with
  | [] | [_] | [_, _] | [_, _, _] | _ :: _ :: _ :: _ :: _ => rfl

/-- StartSequence never leaves the generator waiting (R165). -/
theorem startSequence_st_ne_wait (P : Params) (pg : Pg) (q : List Word) : (startSequence P pg q).1.st ≠ .wait := by
  unfold startSequence
  simp only
  split
  · simp
  · rcases Pg.beginPulses_cases _ with ⟨_, h⟩ | ⟨_, h⟩ <;> rw [h] <;> simp

/-- The clamp is a maximum: no legal floor wraps (R164). -/
theorem clamp_toNat {P : Params} (h : P.Legal) (v : Word) : (clamp P v).toNat = max v.toNat P.floor := by
  have h1 := h.floor_lt
  have h2 := v.isLt
  rw [clamp, BitVec.toNat_ofNat, Nat.mod_eq_of_lt]
  omega

/-- The generator's step touches Q only when it starts a sequence (R162, R166 to R168). -/
theorem pgStep_q (P : Params) (release : Bool) (pg : Pg) (q : List Word) :
    (pgStep P release pg q).2 = if pg.st = .wait ∧ release = true then (startSequence P pg q).2 else q := by
  unfold pgStep
  cases h : pg.st <;> cases release <;> simp

/-- A step leaves WAIT only by a set RELEASE (R166), and no step enters it (R167, R168). -/
theorem pgStep_st_eq_wait {P : Params} {release : Bool} {pg : Pg} {q : List Word} :
    (pgStep P release pg q).1.st = .wait ↔ pg.st = .wait ∧ release = false := by
  constructor
  · intro h
    unfold pgStep at h
    cases hst : pg.st <;> simp only [hst] at h
    · exact absurd h (by decide)
    · cases release
      · exact ⟨rfl, rfl⟩
      · exact absurd h (startSequence_st_ne_wait P pg q)
    · split at h
      · rcases Pg.beginPulses_cases { st := .pause, cnt := pg.cnt - 1, reps := pg.reps, w := pg.w, g := pg.g } with
          ⟨_, h'⟩ | ⟨_, h'⟩ <;> rw [h'] at h <;> exact absurd h (by simp)
      · exact absurd h (by simp)
    · split at h <;> exact absurd h (by simp)
    · split at h
      · split at h <;> exact absurd h (by simp)
      · exact absurd h (by simp)
  · rintro ⟨h, rfl⟩
    simp [pgStep, h]

/-! ### The detectors -/

/-- The sampled line is bit `pin` of trig_in (R14, R134). -/
theorem Inputs.line_eq (inp : Inputs) (pin : Byte) : inp.line pin = inp.trig.getLsbD pin.toNat := rfl

/-- The active level is 1 for rising and 0 for falling (R134). -/
theorem Edge.active_eq (e : Edge) : Edge.active e = decide (e = .rising) := by cases e <;> rfl

/-- The detectors' step where neither runs: nothing (R130). -/
theorem detStep_of_not_running {P : Params} {inp : Inputs} {b : Block} (hg : b.gd.running = false)
    (hu : b.ud.running = false) : detStep P inp b = ⟨b.gd, b.ud, false⟩ := by
  simp [detStep, hg, hu]

/-- What a GPIO step can do: fire and be done, or not fire and go on (R134). -/
theorem gpioStep_fired {P : Params} {edge : Edge} {s : Bool} {gd : Gd} :
    (gpioStep P edge s gd).2 = true → (gpioStep P edge s gd).1.st = .done ∧ gd.running = true ∧ s = edge.active := by
  unfold gpioStep Gd.running
  cases gd.st <;> simp only
  all_goals (repeat' split)
  all_goals simp_all

/-- What a tick can do: fire and be done with the byte matched, or not fire (R142, R144). -/
theorem uartTick_fired {byte : Byte} {s : Bool} {ud : Ud} :
    (uartTick byte s ud).2 = true → (uartTick byte s ud).1.st = .done ∧ (uartTick byte s ud).1.sh = byte ∧
      ud.st = .data ∧ ud.i = 7 := by
  unfold uartTick
  cases ud.st <;> simp only
  all_goals (repeat' split)
  all_goals simp_all

end Sys2Proof.Machine
end

