-- ==== Sys2Proof/Laws/PerInstr.lean ====
section
/-! SUPPORT. Statements about every instruction, one lemma per constructor. -/

namespace Sys2Proof

/-- The encoding of an instruction lies in the row of the opcode map that bears its mnemonic (R106). -/
def Laws.EncodeRow.Statement (i : Instr) : Prop :=
  ∃ row ∈ commandRows ++ illegalRow :: accessRows, row.mnemonic = i.mnemonic ∧ row.applies (encode i) = true

/-- A register row applies to the word with its WE and ADDR, whatever DATA is. -/
theorem Laws.access_applies (we : Bool) (addr : Offset) (data : Word) (name : String) :
    (OpcodeRow.access name (mkTrans we addr 0)).applies (mkTrans we addr data) = true :=
  beq_iff_eq.mpr (mkTrans_and_access we addr data)

theorem Laws.EncodeRow.cmdArm : Laws.EncodeRow.Statement .cmdArm :=
  ⟨.command "CMD ARM" 0x10000000001, by decide, by decide, by decide⟩
theorem Laws.EncodeRow.cmdDisarm : Laws.EncodeRow.Statement .cmdDisarm :=
  ⟨.command "CMD DISARM" 0x10000000002, by decide, by decide, by decide⟩
theorem Laws.EncodeRow.cmdExecute : Laws.EncodeRow.Statement .cmdExecute :=
  ⟨.command "CMD EXECUTE" 0x10000000003, by decide, by decide, by decide⟩
theorem Laws.EncodeRow.cmdReset : Laws.EncodeRow.Statement .cmdReset :=
  ⟨.command "CMD RESET" 0x10000000004, by decide, by decide, by decide⟩
theorem Laws.EncodeRow.cmdPoll : Laws.EncodeRow.Statement .cmdPoll :=
  ⟨.command "CMD POLL" 0x10000000005, by decide, by decide, by decide⟩
theorem Laws.EncodeRow.cmdIllegal (data : Word) : Laws.EncodeRow.Statement (.cmdIllegal data) :=
  ⟨illegalRow, by decide, rfl, Laws.access_applies true 0x00 data _⟩
theorem Laws.EncodeRow.rdCmd : Laws.EncodeRow.Statement .rdCmd :=
  ⟨.access "RD CMD" 0x00000000000, by decide, by decide, by decide⟩
theorem Laws.EncodeRow.rdStatus : Laws.EncodeRow.Statement .rdStatus :=
  ⟨.access "RD STATUS" 0x00400000000, by decide, by decide, by decide⟩
theorem Laws.EncodeRow.wrPause (v : Word) : Laws.EncodeRow.Statement (.wrPause v) :=
  ⟨.access "WR PAUSE" 0x10800000000, by decide, rfl, Laws.access_applies true 0x08 v _⟩
theorem Laws.EncodeRow.rdPause : Laws.EncodeRow.Statement .rdPause :=
  ⟨.access "RD PAUSE" 0x00800000000, by decide, by decide, by decide⟩
theorem Laws.EncodeRow.wrWidth (v : Word) : Laws.EncodeRow.Statement (.wrWidth v) :=
  ⟨.access "WR WIDTH" 0x10C00000000, by decide, rfl, Laws.access_applies true 0x0C v _⟩
theorem Laws.EncodeRow.rdWidth : Laws.EncodeRow.Statement .rdWidth :=
  ⟨.access "RD WIDTH" 0x00C00000000, by decide, by decide, by decide⟩
theorem Laws.EncodeRow.wrGap (v : Word) : Laws.EncodeRow.Statement (.wrGap v) :=
  ⟨.access "WR GAP" 0x11000000000, by decide, rfl, Laws.access_applies true 0x10 v _⟩
theorem Laws.EncodeRow.rdGap : Laws.EncodeRow.Statement .rdGap :=
  ⟨.access "RD GAP" 0x01000000000, by decide, by decide, by decide⟩
theorem Laws.EncodeRow.wrCount (v : Word) : Laws.EncodeRow.Statement (.wrCount v) :=
  ⟨.access "WR COUNT" 0x11400000000, by decide, rfl, Laws.access_applies true 0x14 v _⟩
theorem Laws.EncodeRow.rdCount : Laws.EncodeRow.Statement .rdCount :=
  ⟨.access "RD COUNT" 0x01400000000, by decide, by decide, by decide⟩
theorem Laws.EncodeRow.wrTrigkind (v : Word) : Laws.EncodeRow.Statement (.wrTrigkind v) :=
  ⟨.access "WR TRIGKIND" 0x11800000000, by decide, rfl, Laws.access_applies true 0x18 v _⟩
theorem Laws.EncodeRow.rdTrigkind : Laws.EncodeRow.Statement .rdTrigkind :=
  ⟨.access "RD TRIGKIND" 0x01800000000, by decide, by decide, by decide⟩
theorem Laws.EncodeRow.wrTrigpin (v : Word) : Laws.EncodeRow.Statement (.wrTrigpin v) :=
  ⟨.access "WR TRIGPIN" 0x11C00000000, by decide, rfl, Laws.access_applies true 0x1C v _⟩
theorem Laws.EncodeRow.rdTrigpin : Laws.EncodeRow.Statement .rdTrigpin :=
  ⟨.access "RD TRIGPIN" 0x01C00000000, by decide, by decide, by decide⟩
theorem Laws.EncodeRow.wrTrigbyte (v : Word) : Laws.EncodeRow.Statement (.wrTrigbyte v) :=
  ⟨.access "WR TRIGBYTE" 0x12000000000, by decide, rfl, Laws.access_applies true 0x20 v _⟩
theorem Laws.EncodeRow.rdTrigbyte : Laws.EncodeRow.Statement .rdTrigbyte :=
  ⟨.access "RD TRIGBYTE" 0x02000000000, by decide, by decide, by decide⟩
theorem Laws.EncodeRow.rdGcount : Laws.EncodeRow.Statement .rdGcount :=
  ⟨.access "RD GCOUNT" 0x02400000000, by decide, by decide, by decide⟩
theorem Laws.EncodeRow.wrFlags (v : Word) : Laws.EncodeRow.Statement (.wrFlags v) :=
  ⟨.access "WR FLAGS" 0x12800000000, by decide, rfl, Laws.access_applies true 0x28 v _⟩
theorem Laws.EncodeRow.rdFlags : Laws.EncodeRow.Statement .rdFlags :=
  ⟨.access "RD FLAGS" 0x02800000000, by decide, by decide, by decide⟩
theorem Laws.EncodeRow.wrOutctl (v : Word) : Laws.EncodeRow.Statement (.wrOutctl v) :=
  ⟨.access "WR OUTCTL" 0x12C00000000, by decide, rfl, Laws.access_applies true 0x2C v _⟩
theorem Laws.EncodeRow.rdOutctl : Laws.EncodeRow.Statement .rdOutctl :=
  ⟨.access "RD OUTCTL" 0x02C00000000, by decide, by decide, by decide⟩
theorem Laws.EncodeRow.wrUartdiv (v : Word) : Laws.EncodeRow.Statement (.wrUartdiv v) :=
  ⟨.access "WR UARTDIV" 0x13000000000, by decide, rfl, Laws.access_applies true 0x30 v _⟩
theorem Laws.EncodeRow.rdUartdiv : Laws.EncodeRow.Statement .rdUartdiv :=
  ⟨.access "RD UARTDIV" 0x03000000000, by decide, by decide, by decide⟩

end Sys2Proof
end

