-- ==== Sys2Proof/Laws/Step.lean ====
section
/-! SUPPORT. What a step can do, said once. -/

namespace Sys2Proof.Machine

/-- A step runs a cycle, answers a BusError, or executes the instruction its transaction decodes to. -/
theorem step_cases {s t : State} (h : step s = .next t) :
    ((s.host.head? = some .wait ∨ s.host = []) ∧ t = { s.runCycle with host := s.host.tail }) ∨
    (∃ bits T rest cause, s.host = .txn bits T :: rest ∧ decodeAccess bits T = .error cause ∧
      t = { s with host := rest, resp := some ⟨0, true⟩ }) ∨
    (∃ T rest i, s.host = .txn 32 T :: rest ∧ decode T = .ok i ∧ exec i { s with host := rest } = .next t) := by
  unfold step at h
  match hh : s.host with
  | [] =>
    rw [State.takeLine_nil hh] at h
    cases h
    refine .inl ⟨.inr rfl, ?_⟩
    simp [State.runCycle, hh]
  | .wait :: rest =>
    rw [State.takeLine_cons hh] at h
    cases h
    exact .inl ⟨.inl rfl, rfl⟩
  | .txn bits T :: rest =>
    rw [State.takeLine_cons hh] at h
    simp only at h
    split at h
    · rename_i i hd
      unfold decodeAccess at hd
      split at hd
      · subst_vars
        exact .inr (.inr ⟨T, rest, i, rfl, hd, h⟩)
      · cases hd
    · rename_i cause hd
      cases h
      exact .inr (.inl ⟨bits, T, rest, cause, rfl, hd, rfl⟩)

end Sys2Proof.Machine
end

