-- ==== Sys2Proof/Tests/Slice0.lean ====
section
/-!
SUPPORT. Tests: expected values from the rules' tables and from 95_test_vectors.md; then, for every obligation with
hypotheses, a witness that meets them.
-/

namespace Sys2Proof.Tests

open Sys2Proof.Machine

/-! ### Helpers -/

/-- The parameters of the vectors: P_FLOOR = 4, P_DEBOUNCE = 2, P_NUM_PINS = 8, both variants available. -/
def params : Params := ⟨4, 2, 8, 7, true, true, 1000⟩

/-- A block just after reset. -/
def block0 : Block := Block.reset params

/-- A machine around a block. -/
def around (b : Block) (host : List HostLine) : State := ⟨b, host, [], 0, none⟩

/-- The next state of an answer has the property. -/
def nextIs (a : Answer) (p : State → Bool) : Bool :=
  match a with
  | .next t => p t
  | .fault _ => false
  | .refused _ => false

/-- The instruction answers with this RDATA. -/
def reads (i : Instr) (b : Block) (v : Word) : Bool := nextIs (exec i (around b [])) fun t => t.resp == some ⟨v, false⟩

/-- A write followed by a read at the same boundary answers with this RDATA. -/
def readsAfter (w r : Instr) (b : Block) (v : Word) : Bool :=
  nextIs (exec w (around b [])) fun t => nextIs (exec r t) fun u => u.resp == some ⟨v, false⟩

/-- A block configured for a trigger kind on pin 7. -/
def withKind (kind : Variant) : Block := { block0 with cfg := { block0.cfg with kind := kind, pin := 7 } }

/-- A block armed for a trigger kind. -/
def armedWith (kind : Variant) : Block := armCommand params (withKind kind)

/-- A detector fired in the last cycle (95_test_vectors.md 2.3). -/
def justFired : Block :=
  { armedWith .gpio with fired := true, release := true, gd := ⟨.done, 2⟩ }

/-- Released and in its PAUSE. -/
def released : Block :=
  { armedWith .gpio with fired := true, q := [], gd := ⟨.done, 2⟩, pg := ⟨.pause, 3, 1, 100, 100⟩ }

/-- Inputs with all trigger lines at one level. -/
def inputs (trig uart : Bool) : Inputs := ⟨if trig then BitVec.allOnes 256 else 0, uart⟩

/-! ### WellFormed: R105, R106 -/

theorem test_wf_illegal_is_no_arm : (Instr.cmdIllegal 1).wf = false := by decide
theorem test_wf_illegal_is_no_disarm : (Instr.cmdIllegal 2).wf = false := by decide
theorem test_wf_illegal_is_no_execute : (Instr.cmdIllegal 3).wf = false := by decide
theorem test_wf_illegal_is_no_reset : (Instr.cmdIllegal 4).wf = false := by decide
theorem test_wf_illegal_is_no_poll : (Instr.cmdIllegal 5).wf = false := by decide
theorem test_wf_illegal_bounds : (Instr.cmdIllegal 0).wf = true ∧ (Instr.cmdIllegal 6).wf = true := by decide

/-! ### Decoding: the words of R106, R113 and of 95_test_vectors.md -/

theorem test_decode_cmdArm : decode 0x10000000001 = .ok .cmdArm := rfl
theorem test_decode_cmdDisarm : decode 0x10000000002 = .ok .cmdDisarm := rfl
theorem test_decode_cmdExecute : decode 0x10000000003 = .ok .cmdExecute := rfl
theorem test_decode_cmdReset : decode 0x10000000004 = .ok .cmdReset := rfl
theorem test_decode_cmdPoll : decode 0x10000000005 = .ok .cmdPoll := rfl
theorem test_decode_cmdIllegal : decode 0x100FFFFFFF1 = .ok (.cmdIllegal 0xFFFFFFF1) := rfl
theorem test_decode_rdCmd : decode 0x00000000000 = .ok .rdCmd := rfl
theorem test_decode_rdStatus : decode 0x00400000000 = .ok .rdStatus := rfl
theorem test_decode_wrPause : decode 0x1080000000A = .ok (.wrPause 10) := rfl
theorem test_decode_rdPause : decode 0x00800000000 = .ok .rdPause := rfl
theorem test_decode_wrWidth : decode 0x10C00000096 = .ok (.wrWidth 150) := rfl
theorem test_decode_rdWidth : decode 0x00C00000000 = .ok .rdWidth := rfl
theorem test_decode_wrGap : decode 0x1100000000B = .ok (.wrGap 11) := rfl
theorem test_decode_rdGap : decode 0x01000000000 = .ok .rdGap := rfl
theorem test_decode_wrCount : decode 0x11400000004 = .ok (.wrCount 4) := rfl
theorem test_decode_rdCount : decode 0x01400000000 = .ok .rdCount := rfl
theorem test_decode_wrTrigkind : decode 0x11800000002 = .ok (.wrTrigkind 2) := rfl
theorem test_decode_rdTrigkind : decode 0x01800000000 = .ok .rdTrigkind := rfl
theorem test_decode_wrTrigpin : decode 0x11C00000103 = .ok (.wrTrigpin 0x103) := rfl
theorem test_decode_rdTrigpin : decode 0x01C00000000 = .ok .rdTrigpin := rfl
theorem test_decode_wrTrigbyte : decode 0x120000000A5 = .ok (.wrTrigbyte 0xA5) := rfl
theorem test_decode_rdTrigbyte : decode 0x02000000000 = .ok .rdTrigbyte := rfl
theorem test_decode_rdGcount : decode 0x02400000000 = .ok .rdGcount := rfl
theorem test_decode_wrFlags : decode 0x1280000001F = .ok (.wrFlags 0x1F) := rfl
theorem test_decode_rdFlags : decode 0x02800000000 = .ok .rdFlags := rfl
theorem test_decode_wrOutctl : decode 0x12C00000003 = .ok (.wrOutctl 3) := rfl
theorem test_decode_rdOutctl : decode 0x02C00000000 = .ok .rdOutctl := rfl
theorem test_decode_wrUartdiv : decode 0x1300000000D = .ok (.wrUartdiv 13) := rfl
theorem test_decode_rdUartdiv : decode 0x03000000000 = .ok .rdUartdiv := rfl

/-- The BusErrors of 95_test_vectors.md 2.1, and a 16-bit access (R82). -/
theorem test_decode_bus_errors :
    decode 0x00100000000 = .error (.unmapped 0x01) ∧ decode 0x10400000000 = .error (.readOnly 0x04) ∧
    decode 0x12400000005 = .error (.readOnly 0x24) ∧ decode 0x03400000000 = .error (.unmapped 0x34) ∧
    decode 0x1FF12345678 = .error (.unmapped 0xFF) ∧
    decodeAccess 16 0x10000000001 = .error (.wrongWidth 16) := ⟨rfl, rfl, rfl, rfl, rfl, rfl⟩

theorem test_decodeTableWord :
    decodeTableWord 48 0x10C00000096 = some (.wrWidth 150) ∧ decodeTableWord 48 0x10400000000 = none ∧
    decodeTableWord 48 0x210000000001 = none := ⟨rfl, rfl, rfl⟩

theorem test_withFetchWord : step (State.reset.withFetchWord 48 0x10000000001) = exec .cmdArm State.reset := rfl

/-! ### Commands: the rows of 95_test_vectors.md 2.3, by the STATUS word after the command -/

theorem test_arm_none : statusWord (armCommand params block0) = 0x410 ∧
    (armCommand params block0).q = [0, 0, 100, 100] := by decide
theorem test_arm_errors :
    statusWord (armCommand params { withKind .gpio with cfg := { (withKind .gpio).cfg with pin := 8 } }) = 0x3 ∧
    statusWord (armCommand { params with availableGpio := false } (withKind .gpio)) = 0x2 ∧
    statusWord (armCommand params (armedWith .none)) = 0x411 := by decide
theorem test_disarm : statusWord (disarmCommand (armedWith .none)) = 0 ∧
    statusWord (disarmCommand justFired) = 0x1020 ∧ (disarmCommand justFired).pg.st = .stopped := by decide
theorem test_execute_armed : statusWord (executeCommand params justFired) = 0x1020 ∧
    (executeCommand params justFired).pg = ⟨.high, 100, 1, 100, 100⟩ ∧
    (executeCommand params { armedWith .none with gcount := 0xFFFFFFFF }).gcount = 0 := by decide
theorem test_execute_disarmed_or_released : statusWord (executeCommand params block0) = 1 ∧
    (executeCommand params released).pg = released.pg ∧ (executeCommand params released).gcount = 1 := by decide
theorem test_reset : statusWord (resetCommand params { armedWith .uart with gcount := 5 }) = 0x2000 ∧
    (resetCommand params { armedWith .uart with gcount := 5 }).cfg = block0.cfg := by decide
theorem test_poll : statusWord (pollCommand (armedWith .none)) = 0x410 ∧ statusWord (pollCommand released) = 0x1020 ∧
    (pollCommand released).gcount = 1 ∧ (pollCommand released).pg = released.pg := by decide
theorem test_illegal :
    nextIs (exec (.cmdIllegal 6) (around (armedWith .uart) [])) (fun t => statusWord t.blk == 0x2414) = true := by decide

/-! ### Register access: the rows of 95_test_vectors.md 2.2 -/

theorem test_rdCmd : reads .rdCmd block0 0 = true := by decide
theorem test_rdStatus : reads .rdStatus (armedWith .gpio) 0x1410 = true := by decide
theorem test_pause : readsAfter (.wrPause 0xFFFFFFFF) .rdPause block0 0xFFFFFFFF = true := by decide
theorem test_width : reads .rdWidth block0 100 = true ∧ readsAfter (.wrWidth 0) .rdWidth block0 0 = true := by decide
theorem test_gap : readsAfter (.wrGap 11) .rdGap block0 11 = true := by decide
theorem test_count : readsAfter (.wrCount 4) .rdCount block0 4 = true := by decide
theorem test_trigkind : readsAfter (.wrTrigkind 3) .rdTrigkind (withKind .uart) 2 = true ∧
    readsAfter (.wrTrigkind 0xFFFFFFFD) .rdTrigkind (withKind .uart) 1 = true := by decide
theorem test_trigpin : reads .rdTrigpin block0 0xFF = true ∧
    readsAfter (.wrTrigpin 0xFFFFF1FF) .rdTrigpin block0 0x1FF = true := by decide
theorem test_trigbyte : readsAfter (.wrTrigbyte 0x1A5) .rdTrigbyte block0 0xA5 = true := by decide
theorem test_gcount : reads .rdGcount { block0 with gcount := 3 } 3 = true := by decide
theorem test_flags : readsAfter (.wrFlags 0x1F) .rdFlags block0 0xF = true ∧
    readsAfter (.wrFlags 0) .rdFlags (armedWith .none) 0x10 = true := by decide
theorem test_outctl : reads .rdOutctl block0 1 = true ∧
    readsAfter (.wrOutctl 0xFFFFFFFE) .rdOutctl block0 2 = true := by decide
theorem test_uartdiv : readsAfter (.wrUartdiv 0) .rdUartdiv block0 7 = true ∧
    readsAfter (.wrUartdiv 13) .rdUartdiv block0 13 = true := by decide

/-! ### The Hardware agent: single steps of the rules' pseudocode -/

/-- 2.4, row "5 2 2 1": C = 1 gives two pulses, width and gap clamped to 4, PAUSE first. -/
theorem test_release : startSequence params ⟨.wait, 0, 0, 0, 0⟩ [5, 1, 2, 1] = (⟨.pause, 5, 2, 4, 4⟩, []) := by decide
/-- 2.4, row "0 0 10 10": no pulse. -/
theorem test_release_no_pulse :
    (startSequence params ⟨.wait, 0, 0, 0, 0⟩ [0, 0xFFFFFFFF, 10, 10]).1 = ⟨.stopped, 0, 0, 10, 10⟩ := by decide
/-- R167: the last cycle of the last LOW stops the generator; of another, the next pulse begins. -/
theorem test_low_ends : (pgStep params false ⟨.low, 1, 1, 4, 5⟩ []).1 = ⟨.stopped, 0, 0, 4, 5⟩ ∧
    (pgStep params false ⟨.low, 1, 2, 4, 5⟩ []).1 = ⟨.high, 4, 1, 4, 5⟩ := by decide
/-- R134 with P_DEBOUNCE = 2: the second active sample in a row fires, an inactive one starts over. -/
theorem test_gpio : gpioStep params .rising true ⟨.qual, 1⟩ = (⟨.done, 2⟩, true) ∧
    gpioStep params .rising false ⟨.qual, 1⟩ = (⟨.waitActive, 0⟩, false) := by decide
/-- R14, R134: trig_in[p] is bit p of the level word; rising is active at 1, falling at 0. -/
theorem test_trigger_line : (⟨0x80, true⟩ : Inputs).line 7 = true ∧ (⟨0x80, true⟩ : Inputs).line 6 = false ∧
    Edge.active .rising = true ∧ Edge.active .falling = false := by decide
/-- R142, R145 items 1 to 3: leaving U_WAIT_IDLE needs a high sample; a start bit high at tick 4 is a false start. -/
theorem test_uart_start : uartTick 0xA5 false ⟨.waitIdle, 0, 0, 0, 0⟩ = (⟨.waitIdle, 0, 0, 0, 0⟩, false) ∧
    uartTick 0xA5 true ⟨.waitIdle, 0, 0, 0, 0⟩ = (⟨.waitStart, 0, 0, 0, 0⟩, false) ∧
    (uartTick 0xA5 true ⟨.start, 0, 3, 0, 0⟩).1.st = .waitStart ∧
    (uartTick 0xA5 false ⟨.start, 0, 3, 0, 0⟩).1.st = .data := by decide
/-- R142, R143: the eighth data bit, 1, completes 0xA5, since bits come least significant first. -/
theorem test_uart_last_bit : uartTick 0xA5 true ⟨.data, 0, 7, 7, 0x25⟩ = (⟨.done, 0, 0, 7, 0xA5⟩, true) ∧
    uartTick 0xA4 true ⟨.data, 0, 7, 7, 0x25⟩ = (⟨.waitIdle, 0, 0, 7, 0xA5⟩, false) := by decide
/-- R141: the divider 2 ticks in every second cycle. -/
theorem test_uart_divider : nextTc 0 2 = 1 ∧ nextTc 1 2 = 0 ∧ nextTc 0 1 = 0 := by decide
/-- R172: the cycle after a fire consumes RELEASE. -/
theorem test_handoff : (hwStep params (inputs true true) justFired).release = false ∧
    (hwStep params (inputs true true) justFired).pg.st = .high ∧
    (hwStep params (inputs true true) justFired).q = [] := by decide
/-- 2.5: OUTCTL 3 in HIGH and else. -/
theorem test_outputs :
    outO { released with cfg := { released.cfg with invEn := true }, pg := ⟨.high, 1, 1, 4, 4⟩ } = .level true ∧
    outnO { released with cfg := { released.cfg with invEn := true } } = .level true ∧ outnO released = .z := by decide
/-- 2.3: the pull of an armed GPIO trigger on pin 7, rising. -/
theorem test_pull : pullO (armedWith .gpio) 7 = .down ∧ pullO (armedWith .gpio) 6 = .none := by decide

/-! ### The assembler and the API: R108, R109, R112, R113 -/

theorem test_readLine : readLine "WR TRIGPIN, pin=3, edge=falling -- arm it".toList = some (.wr .trigpin 0x103) ∧
    readLine "CMD POLL".toList = some (.cmd .poll) ∧ readLine "WR @0x05, 1".toList = some (.wrAt 5 1) ∧
    readLine "WAIT 74".toList = some (.wait 74) ∧ readLine "WR PAUSE 1".toList = none := by decide
theorem test_assemble : assemble [.wr .width 150, .wait 2, .rd .status] =
    [.txn 32 0x10C00000096, .wait, .wait, .txn 32 0x00400000000] := by decide
theorem test_api_arm_twice :
    ((ApiCall.arm.run (around (armedWith .none) [])).map fun r => r.2) = some (.success false) := by decide
theorem test_api_get_count :
    ((ApiCall.getCount.run (around released [])).map fun r => r.2) = some (.count 1) := by decide
theorem test_api_set_aux :
    ((ApiCall.setAux 2 true |>.run (around released [])).map fun r => r.1.blk.aux) = some 4 := by decide

/-! ### Witnesses: states and operands that meet the hypotheses of the obligations -/

theorem params_legal : params.Legal := by unfold Params.Legal; decide

/-- In a pulse, armed, with a GPIO trigger that has fired. -/
def firing (P : Params) : Block :=
  { Block.reset P with
    cfg := { (Block.reset P).cfg with uartdiv := 1 }
    lat := { (Block.reset P).lat with div := 1, pin := 0 }
    armed := true, fired := true, resident := .gpio, gd := ⟨.done, 1⟩, pg := ⟨.high, 1, 1, 100, 100⟩ }

/-- Waiting for a UART byte: a tick is due and the start bit may come. -/
def waitingUart (div : Word) : Block :=
  { armedWith .uart with lat := ⟨7, .rising, 0xA5, div⟩, ud := ⟨.waitStart, 0, 0, 0, 0⟩ }

/-- Waiting for the active level of pin 7. -/
def waitingGpio : Block := { armedWith .gpio with gd := ⟨.waitActive, 0⟩ }

theorem firing_inv {P : Params} (h : P.Legal) : (firing P).Inv P := by
  have := h.numPins_pos
  constructor <;> simp [firing, Block.reset, Cfg.reset]
  omega

theorem firing_ranges {P : Params} (h : P.Legal) : (firing P).Ranges P := by
  have := h.floor_le
  have := h.debounce_pos
  constructor <;>
    simp [firing, Block.reset, Cfg.reset, Block.Firing, Gd.running, Ud.running, *]

theorem firing_good : (around (firing Config.params) []).Good :=
  ⟨firing_inv Config.params_legal, firing_ranges Config.params_legal⟩

theorem block0_inv : block0.Inv params := by constructor <;> decide

theorem waitingGpio_good : waitingGpio.Inv params ∧ waitingGpio.Ranges params := by
  refine ⟨by constructor <;> decide, ?_⟩
  constructor <;> simp [waitingGpio, armedWith, withKind, block0, Block.Firing] <;> decide

/-- With an empty schedule `k` steps run `k` cycles. -/
theorem reaches_of_host_nil (k : Nat) :
    ∀ s : State, s.host = [] → ∃ t, Reaches k s t ∧ t.cycle = s.cycle + k := by
  induction k with
  | zero => exact fun s _ => ⟨s, rfl, rfl⟩
  | succ k ih =>
    intro s h
    obtain ⟨t, ht, hc⟩ := ih s.runCycle (by simpa [State.runCycle] using h)
    refine ⟨t, ?_, by simp [hc]; omega⟩
    have hs : step s = .next s.runCycle := by simp [step, State.takeLine_nil h]
    simpa [Reaches, runSteps, hs] using ht

/-- A schedule without lines has no ARM. -/
theorem noArm_of_host_nil {s : State} (h : s.host = []) : s.NoArm := by simp [State.NoArm, h]

theorem witness_DecodeOfEncode : (Instr.cmdIllegal 0).wf = true ∧ (Instr.wrWidth 0xFFFFFFFF).wf = true := by decide

theorem witness_EncodeOfDecode : (∃ T i, decode T = .ok i ∧ i.isRead = false) ∧ ∃ T i, decode T = .ok i ∧ i.isRead = true :=
  ⟨⟨0x10000000001, .cmdArm, rfl, rfl⟩, 0x004FFFFFFFF, .rdStatus, rfl, rfl⟩

theorem witness_IllegalCommandWords :
    (0x10 : Word).extractLsb' 0 4 = 0 ∧ 6 ≤ ((6 : Word).extractLsb' 0 4).toNat ∧
    6 ≤ ((15 : Word).extractLsb' 0 4).toNat ∧ (0x11 : Word).extractLsb' 4 28 ≠ 0 := by decide

/-- Each cause at a boundary of its range, and a transaction with none. -/
theorem witness_BusErrorChangesNothing :
    (∃ s rest, State.host s = .txn 16 0x10000000001 :: rest ∧ 16 ≠ 32) ∧
    (∃ s rest, State.host s = .txn 32 0x03100000000 :: rest ∧ ¬(Trans.addr 0x03100000000).toNat % 4 = 0) ∧
    (∃ s rest, State.host s = .txn 32 0x03400000000 :: rest ∧ ¬(Trans.addr 0x03400000000).toNat ≤ 0x30) ∧
    (∃ s rest, State.host s = .txn 32 0x12400000005 :: rest ∧ Trans.we 0x12400000005 = true ∧
      Trans.addr 0x12400000005 = 0x24) ∧
    ∃ s rest, State.host s = .txn 32 0x13000000001 :: rest ∧ (Trans.addr 0x13000000001).toNat % 4 = 0 ∧
      (Trans.addr 0x13000000001).toNat ≤ 0x30 ∧ Trans.addr 0x13000000001 ≠ 0x24 :=
  ⟨⟨around block0 [.txn 16 0x10000000001], [], rfl, by decide⟩, ⟨around block0 [.txn 32 0x03100000000], [], rfl, by decide⟩,
    ⟨around block0 [.txn 32 0x03400000000], [], rfl, by decide⟩,
    ⟨around block0 [.txn 32 0x12400000005], [], rfl, by decide, by decide⟩,
    around block0 [.txn 32 0x13000000001], [], rfl, by decide, by decide, by decide⟩

theorem witness_StepRunsDecoded :
    ∃ s rest i, State.host s = .txn 32 0x10000000001 :: rest ∧ decode 0x10000000001 = .ok i :=
  ⟨around block0 [.txn 32 0x10000000001, .wait], [.wait], .cmdArm, rfl, rfl⟩

theorem witness_StepRunsCycle : (around block0 [.wait]).host.head? = some .wait ∧ State.reset.host = [] := ⟨rfl, rfl⟩

theorem witness_BoundaryThenCycle : ∃ (s : State) (txns : List (Nat × Trans)) (rest : List HostLine), txns ≠ [] ∧
    s.host = txns.map (fun x => HostLine.txn x.1 x.2) ++ .wait :: rest :=
  ⟨around block0 [.txn 32 0x10000000001, .wait], [(32, 0x10000000001)], [], by decide, rfl⟩

theorem witness_StepKeepsInv :
    ∃ s t, s.blk.Inv Config.params ∧ step s = .next t ∧ t.blk ≠ s.blk :=
  ⟨around (firing Config.params) [.txn 32 0x10000000002], _, firing_inv Config.params_legal, rfl, by
    intro h; exact Bool.noConfusion (show false = true from congrArg Block.armed h)⟩

theorem witness_StepKeepsRanges : ∃ s t, State.Good s ∧ step s = .next t :=
  ⟨around (firing Config.params) [], _, firing_good, rfl⟩

theorem witness_ReleaseTakesTheQueue : params.Legal ∧ (1 : Word) ≠ 0 ∧ (0xFFFFFFFE : Word) ≠ 0xFFFFFFFF :=
  ⟨params_legal, by decide, by decide⟩

theorem witness_WaitStepConsumesRelease :
    (justFired.pg.st = .wait ∧ justFired.release = true) ∧ waitingGpio.pg.st = .wait ∧ waitingGpio.release = false := by
  decide

/-- The run of any length from the first cycle of a sequence. -/
theorem witness_SequenceClosedForm (p c w g : Word) (k : Nat) : ∃ s t pg, State.NoArm s ∧
    s.blk.pg = (startSequence Config.params pg [p, c, w, g]).1 ∧ Reaches k s t ∧ t.cycle - s.cycle = k := by
  let pg : Pg := ⟨.wait, 0, 0, 0, 0⟩
  let s : State := around { block0 with pg := (startSequence Config.params pg [p, c, w, g]).1 } []
  obtain ⟨t, ht, hc⟩ := reaches_of_host_nil k s rfl
  exact ⟨s, t, pg, noArm_of_host_nil rfl, rfl, ht, by omega⟩

theorem witness_ActiveCycleCount : ∃ b pg, params.Legal ∧ Block.pg b = (startSequence params pg [1, 1, 2, 5]).1 ∧
    (1 : Word).toNat + ((1 : Word).toNat + 1) % 2 ^ 32 * (max (2 : Word).toNat params.floor + max (5 : Word).toNat params.floor)
      ≤ 19 :=
  ⟨{ block0 with pg := (startSequence params ⟨.wait, 0, 0, 0, 0⟩ [1, 1, 2, 5]).1 }, ⟨.wait, 0, 0, 0, 0⟩, params_legal, rfl,
    by decide⟩

theorem witness_OnlyArmStopsASequence :
    (firing params).Firing ∧ Instr.cmdReset ≠ .cmdArm ∧
    ({ firing params with armed := false } : Block).Firing ∧
    armCheck params { firing params with armed := false } = .ok :=
  ⟨.inr (.inl rfl), by decide, .inr (.inl rfl), by decide⟩

theorem witness_AtMostOneSequencePerArm : ∃ s t, State.NoArm s ∧ s.blk.pg.st ≠ .wait ∧ s.blk.pg.st = .stopped ∧ Reaches 1 s t :=
  ⟨around block0 [], _, noArm_of_host_nil rfl, by decide, rfl, rfl⟩

theorem witness_OutputMux : (firing params).pg.st = .high ∧ block0.pg.st ≠ .high ∧ 7 < params.numPins ∧
    (∃ b : Block, b.cfg.outEn = true ∧ b.cfg.invEn = true) :=
  ⟨rfl, by decide, by decide, { block0 with cfg := { block0.cfg with invEn := true } }, rfl, rfl⟩

/-- A cycle, and a write of the configuration, from an untouched block. -/
theorem witness_OutputsIdleUntilArmed : block0.Untouched ∧
    (∃ t, step (around block0 []) = .next t) ∧
    (∃ t, step (around block0 [.txn 32 0x11C00000003]) = .next t) ∧
    ∀ T rest i, (around block0 [.txn 32 0x11C00000003]).host = .txn 32 T :: rest → decode T = .ok i →
      i ≠ .cmdArm ∧ i ≠ .cmdExecute ∧ ∀ v, i ≠ .wrOutctl v := by
  refine ⟨by constructor <;> rfl, ⟨_, rfl⟩, ⟨_, rfl⟩, fun T rest i h hd => ?_⟩
  have hT : T = 0x11C00000003 := by
    simp only [around, List.cons.injEq, HostLine.txn.injEq] at h
    exact h.1.2.symm
  subst hT
  cases hd
  exact ⟨by decide, by decide, fun v => by simp⟩

theorem witness_PullFollowsResidentPin : (firing params).resident = .gpio ∧
    (∃ t, exec .cmdReset (around (firing params) []) = .next t) ∧
    ∃ s t p, step s = .next t ∧ pullO t.blk p ≠ pullO s.blk p :=
  ⟨rfl, ⟨_, rfl⟩, around { firing params with armed := false } [.txn 32 0x10000000001], _, 0, rfl, by decide⟩

theorem witness_IdleBlockIsStill : block0.Inv params ∧ block0.armed = false ∧ block0.pg.st = .stopped :=
  ⟨block0_inv, rfl, rfl⟩

theorem witness_FireSetsFiredAndRelease :
    (detStep params (inputs true true) { waitingGpio with gd := ⟨.qual, 1⟩ }).fired = true ∧
    (detStep params (inputs true true) { waitingUart 1 with ud := ⟨.data, 0, 7, 7, 0x25⟩ }).fired = true := by decide

theorem witness_FireAndConsumeNeverMeet : ∃ inp b, Block.Inv params b ∧ b.Ranges params ∧ (detStep params inp b).fired = true := by
  refine ⟨inputs true true, { waitingGpio with gd := ⟨.qual, 1⟩ }, by constructor <;> decide, ?_, by decide⟩
  constructor <;> simp [waitingGpio, armedWith, withKind, block0, Block.Firing] <;> decide

theorem witness_DoneDetectorIsInert : justFired.gd.running = false ∧ justFired.ud.running = false := by decide

theorem witness_KindNoneWaits : block0.armed = false ∧ block0.cfg.kind = .none := by decide

/-- From G_WAIT_ACTIVE with the edge at once; and from G_WAIT_IDLE with a line that is active in cycle 0, idle in 1,
active too briefly in 2, idle in 3, and active from cycle 4 on (P_DEBOUNCE = 2). -/
theorem witness_GpioLatency : ∃ (inp inp' : Nat → Inputs) (b b' : Block), params.Legal ∧
    (b.gd.st = .waitActive ∧ b.ud.running = false ∧ b.fired = false ∧ b.release = false ∧ b.pg.st = .wait ∧
      b.q = [0, 0, 100, 100] ∧ ∀ m < params.debounce, (inp (0 + m)).trig.getLsbD b.lat.pin.toNat = true) ∧
    (b'.gd.st = .waitIdle ∧ b'.ud.running = false ∧ b'.fired = false ∧ b'.release = false ∧ b'.pg.st = .wait ∧
      b'.q = [0, 0, 100, 100] ∧ b'.lat.edge = .rising ∧
      (∀ m < 1, (inp' m).trig.getLsbD b'.lat.pin.toNat = true) ∧
      (inp' 1).trig.getLsbD b'.lat.pin.toNat ≠ true ∧
      (∀ m, 1 ≤ m → m + params.debounce ≤ 4 →
        ∃ j < params.debounce, (inp' (m + j)).trig.getLsbD b'.lat.pin.toNat ≠ true) ∧
      (inp' (4 - 1)).trig.getLsbD b'.lat.pin.toNat ≠ true ∧
      ∀ j < params.debounce, (inp' (4 + j)).trig.getLsbD b'.lat.pin.toNat = true) := by
  refine ⟨fun _ => inputs true true, fun m => inputs (m ≠ 1 && m ≠ 3) true, waitingGpio, armedWith .gpio, params_legal,
    by decide, by decide, by decide, by decide, by decide, by decide, by decide, by decide, by decide, by decide, ?_,
    by decide, by decide⟩
  intro m h1 h2
  have h3 : m < 3 := by
    have : params.debounce = 2 := rfl
    omega
  interval_cases m
  · exact ⟨0, by decide, by decide⟩
  · exact ⟨1, by decide, by decide⟩

theorem witness_ShortGpioPulseNeverFires : ∃ (inp : Nat → Inputs) (b : Block), b.gd.st = .waitActive ∧
    b.ud.running = false ∧ b.fired = false ∧ (inp 0).trig.getLsbD b.lat.pin.toNat = decide (b.lat.edge = .rising) ∧
    ∀ m, ∃ j < params.debounce, (inp (m + j)).trig.getLsbD b.lat.pin.toNat ≠ decide (b.lat.edge = .rising) := by
  refine ⟨fun m => inputs (m % 2 == 0) true, waitingGpio, by decide, by decide, by decide, by decide, fun m => ?_⟩
  rcases Nat.mod_two_eq_zero_or_one m with h | h
  · have hm : (m + 1) % 2 = 1 := by omega
    exact ⟨1, by decide, by simp [hm]; decide⟩
  · exact ⟨0, by decide, by simp [h]; decide⟩

theorem witness_StuckGpioLineNeverFires : ∃ (inp : Nat → Inputs) (b : Block), armCheck params b = .ok ∧
    b.cfg.kind = .gpio ∧ ∀ m, (inp m).trig.getLsbD b.cfg.pin.toNat = decide (b.cfg.edge = .rising) :=
  ⟨fun _ => inputs true true, withKind .gpio, by decide, rfl, fun _ =>
    show (inputs true true).trig.getLsbD 7 = true by decide⟩

/-- A frame of `v` with its start bit at cycle 0, the divider being 1; the clauses are met by 0xA5 and by another. -/
theorem witness_UartByteDecode (v : Byte) : ∃ (inp : Nat → Inputs) (b : Block), b.ud.st = .waitStart ∧ b.ud.tc = 0 ∧
    b.lat.div = 1 ∧ b.lat.byte = 0xA5 ∧ b.gd.running = false ∧ b.fired = false ∧ b.release = false ∧ b.pg.st = .wait ∧
    (inp 0).uartRx = false ∧ (inp (4 * b.lat.div.toNat)).uartRx = false ∧
    ∀ i < 8, (inp ((12 + 8 * i) * b.lat.div.toNat)).uartRx = v.getLsbD i := by
  refine ⟨fun m => inputs false (decide (8 ≤ m) && v.getLsbD ((m - 12) / 8)), waitingUart 1, by decide, by decide,
    by decide, by decide, by decide, by decide, by decide, by decide, rfl, rfl, fun i _ => ?_⟩
  have h1 : (waitingUart 1).lat.div.toNat = 1 := by decide
  have h2 : (12 + 8 * i - 12) / 8 = i := by omega
  have h3 : 8 ≤ 12 + 8 * i := by omega
  simp only [h1, Nat.mul_one, inputs, h2, h3, decide_true, Bool.true_and]

theorem witness_UnselectedInputsDoNotMatter : ∃ (inp inp' : Nat → Inputs) (b : Block), inp ≠ inp' ∧
    b.gd.running = true ∧ (∀ m, (inp m).trig.getLsbD b.lat.pin.toNat = (inp' m).trig.getLsbD b.lat.pin.toNat) ∧
    (b.ud.running = true → ∀ m, (inp m).uartRx = (inp' m).uartRx) :=
  ⟨fun _ => inputs true true, fun _ => inputs true false, waitingGpio, fun h => by
    have := congrArg Inputs.uartRx (congrFun h 0); simp [inputs] at this,
    by decide, fun _ => rfl, fun h => absurd h (by decide)⟩

/-- The other phases: a line low for two ticks and then high in U_WAIT_IDLE, high for two and then low in U_WAIT_START,
and a false start, the divider being 2. -/
theorem witness_UartByteDecode_phases : ∃ (idle start false' : Nat → Inputs) (b b' : Block), b.lat.div = 2 ∧
    b'.lat.div = 2 ∧ b.ud.st = .waitIdle ∧ b'.ud.st = .waitStart ∧ b.ud.tc = 0 ∧ b'.ud.tc = 0 ∧
    ((∀ j < 2, (idle (j * 2)).uartRx = false) ∧ (idle (2 * 2)).uartRx = true) ∧
    ((∀ j < 2, (start (j * 2)).uartRx = true) ∧ (start (2 * 2)).uartRx = false) ∧
    (false' 0).uartRx = false ∧ (false' (4 * 2)).uartRx = true :=
  ⟨fun m => inputs true (m == 4), fun m => inputs true (m != 4), fun m => inputs true (m == 8),
    { waitingUart 2 with ud := ⟨.waitIdle, 0, 0, 0, 0⟩ }, waitingUart 2, by decide⟩

theorem witness_ArmTwiceFails : armCheck params (withKind .gpio) = .ok := by decide

theorem witness_ExecuteEffects : block0.armed = false ∧ justFired.armed = true ∧ released.armed = true := by decide

theorem witness_ResetAgainstPowerOn : ∃ b : Block, b.Inv params ∧ b.Ranges params ∧ b.Firing ∧
    waitingGpio.Inv params ∧ waitingGpio.Ranges params ∧ ¬waitingGpio.Firing :=
  ⟨firing params, firing_inv params_legal, firing_ranges params_legal, .inr (.inl rfl), waitingGpio_good.1, waitingGpio_good.2,
    by unfold Block.Firing; decide⟩

theorem witness_FailingCommandChangesOnlyResult : Instr.cmdExecute.isCommand = true ∧
    (∃ t, exec .cmdExecute (around block0 []) = .next t ∧ t.blk.result = .errState) ∧
    (∃ t, exec .cmdArm (around block0 []) = .next t ∧ t.blk.result = .ok) ∧
    ∃ t, exec (.cmdIllegal 0) (around block0 []) = .next t ∧ t.blk.result = .errIllegal :=
  ⟨rfl, ⟨_, rfl, rfl⟩, ⟨_, rfl, rfl⟩, _, rfl, rfl⟩

/-- A pin 0xFF exists under no legal parameters; an armed block is refused before its kind is looked at. -/
theorem witness_ResultCodes :
    (∃ s t, exec .cmdArm s = .next t ∧ s.blk.armed = true ∧ s.blk.cfg.kind = .gpio) ∧
    (∃ s t, exec .cmdArm s = .next t ∧ s.blk.armed = false ∧ s.blk.cfg.kind = .gpio ∧
      Config.params.numPins ≤ s.blk.cfg.pin.toNat) ∧
    (∃ s t, exec .cmdArm s = .next t ∧ s.blk.armed = false ∧ s.blk.cfg.kind = .none) ∧
    Instr.rdCmd.isCommand = false ∧
    ∃ s rest cause, State.host s = .txn 32 0x10400000000 :: rest ∧ decodeAccess 32 0x10400000000 = .error cause := by
  refine ⟨⟨around (armedWith .gpio) [], _, rfl, by decide, by decide⟩,
    ⟨around { block0 with cfg := { block0.cfg with kind := .gpio } } [], _, rfl, rfl, rfl, ?_⟩,
    ⟨around block0 [], _, rfl, rfl, rfl⟩, rfl, around block0 [.txn 32 0x10400000000], [], _, rfl, rfl⟩
  exact Config.params_legal.numPins_le

theorem witness_DisarmPreventsPulse : ∃ s t u, State.NoArm s ∧ s.blk.Inv Config.params ∧ s.blk.pg.st = .wait ∧
    exec .cmdDisarm s = .next t ∧ Reaches 1 t u := by
  refine ⟨around { firing Config.params with q := [0, 0, 1, 1], release := true, pg := ⟨.wait, 0, 0, 0, 0⟩ } [], _, _,
    noArm_of_host_nil rfl, ?_, rfl, rfl, rfl⟩
  have := Config.params_legal.numPins_pos
  constructor <;> simp [around, firing, Block.reset, Cfg.reset]
  omega

theorem witness_ArmedWriters :
    (∃ s t, step s = .next t ∧ t.blk.armed = true ∧ s.blk.armed = false) ∧
    ∃ s t, step s = .next t ∧ t.blk.armed = false ∧ s.blk.armed = true :=
  ⟨⟨around block0 [.txn 32 0x10000000001], _, rfl, rfl, rfl⟩, around (firing params) [.txn 32 0x10000000002], _, rfl, rfl, rfl⟩

theorem witness_FiredWriters :
    (∃ s t, step s = .next t ∧ t.blk.fired = true ∧ s.blk.fired = false) ∧
    ∃ s t, step s = .next t ∧ t.blk.fired = false ∧ s.blk.fired = true :=
  ⟨⟨around { firing params with fired := false } [.txn 32 0x10000000003], _, rfl, rfl, rfl⟩,
    around (firing params) [.txn 32 0x10000000004], _, rfl, rfl, rfl⟩

theorem witness_GcountWriters : ∃ s t, step s = .next t ∧ t.blk.gcount ≠ s.blk.gcount :=
  ⟨around (firing params) [.txn 32 0x10000000005], _, rfl, by decide⟩

theorem witness_ResidentAndLatWriters : ∃ s t, step s = .next t ∧ t.blk.resident ≠ s.blk.resident :=
  ⟨around { firing params with armed := false } [.txn 32 0x10000000001], _, rfl, by decide⟩

/-- Every premise of the writers: CFG, AUX and Q change, RELEASE stays set, and a cycle sets it. -/
theorem witness_ConfigAuxReleaseQueueWriters :
    (∃ s t, exec (.wrPause 7) s = .next t ∧ t.blk.cfg ≠ s.blk.cfg) ∧
    (∃ s t, exec (.wrFlags 1) s = .next t ∧ t.blk.aux ≠ s.blk.aux) ∧
    (∃ s t, exec .cmdArm s = .next t ∧ t.blk.q ≠ s.blk.q) ∧
    (∃ s t, exec .cmdPoll s = .next t ∧ t.blk.release = true) ∧
    (hwStep params (inputs true true) { waitingGpio with gd := ⟨.qual, 1⟩ }).release = true :=
  ⟨⟨around block0 [], _, rfl, by decide⟩, ⟨around block0 [], _, rfl, by decide⟩, ⟨around block0 [], _, rfl, by decide⟩,
    ⟨around justFired [], _, rfl, by decide⟩, by decide⟩

theorem witness_StatusFields : (around justFired []).blk.q.length ≤ 4 ∧ (around justFired []).blk.q.length = 4 := by decide

theorem witness_ReadAfterWrite : (0xFFFFFFFE : Word) &&& 3 ≠ 3 ∧ (0xFFFFFFFF : Word) &&& 3 = 3 ∧
    ∃ r, exec .rdTrigkind (around block0 []) = .next r := ⟨by decide, by decide, _, rfl⟩

theorem witness_HiddenStateIsInvisible : ∃ s s' t t', s ≠ s' ∧ Instr.rdStatus.isRead = true ∧
    s.blk.hostView = s'.blk.hostView ∧ exec .rdStatus s = .next t ∧ exec .rdStatus s' = .next t' :=
  ⟨around justFired [], around { justFired with release := false } [], _, _, by decide, rfl, rfl, rfl, rfl⟩

/-- The largest number of each field, in both notations. -/
theorem witness_AssembledLinesDecode : IsNumberText "0xFf".toList 255 ∧ IsDigits 10 "255".toList 255 ∧
    IsNumberText "0xFFFFFFFF".toList 4294967295 := by
  refine ⟨.inr ⟨"Ff".toList, rfl, [15, 15], by decide, by decide, ?_, rfl⟩, ⟨[2, 5, 5], by decide, by decide, ?_, rfl⟩,
    .inr ⟨"FFFFFFFF".toList, rfl, [15, 15, 15, 15, 15, 15, 15, 15], by decide, by decide, ?_, rfl⟩⟩ <;>
  simp [IsDigit]

end Sys2Proof.Tests
end

