-- ==== Sys2Proof/Proofs/Scope.lean ====
section
/-!
PROOF. The machine's step as equations, the effect of every instruction on the block, and the obligations of the scope
chapter (R12, R15, R90, R101, R172).
-/

namespace Sys2Proof.Machine

/-! ### What decodes is well-formed (R105, R106) -/

theorem decodeCommand_wf (data : Word) : (decodeCommand data).wf = true := by
  unfold decodeCommand
  repeat' split
  case isFalse => simp_all [Instr.wf, isCommandWord]
  all_goals rfl

theorem decodeRead_wf (r : Reg) : (decodeRead r).wf = true := by
  cases r <;> rfl

theorem decodeWrite_wf {r : Reg} {data : Word} {i : Instr} (h : decodeWrite r data = .ok i) : i.wf = true := by
  cases r
  case cmd =>
    cases h
    exact decodeCommand_wf data
  all_goals cases h <;> rfl

/-- CMD ILLEGAL is decoded only from a DATA that is no command word (R106); no other row has a check. -/
theorem decode_wf {T : Trans} {i : Instr} (h : decode T = .ok i) : i.wf = true := by
  unfold decode at h
  split at h
  · cases h
  · split at h
    · exact decodeWrite_wf h
    · cases h
      exact decodeRead_wf _

@[simp] theorem decodeAccess_32 (T : Trans) : decodeAccess 32 T = decode T := if_pos rfl

/-! ### What an instruction does: a function of the block alone -/

/-- The block after an instruction; a read leaves it (R220). -/
def execBlock (i : Instr) (b : Block) : Block :=
  match i with
  | .cmdArm => armCommand Config.params b
  | .cmdDisarm => disarmCommand b
  | .cmdExecute => executeCommand Config.params b
  | .cmdReset => resetCommand Config.params b
  | .cmdPoll => pollCommand b
  | .cmdIllegal _ => b.withResult .errIllegal
  | .wrPause v => { b with cfg := { b.cfg with pause := v } }
  | .wrWidth v => { b with cfg := { b.cfg with width := v } }
  | .wrGap v => { b with cfg := { b.cfg with gap := v } }
  | .wrCount v => { b with cfg := { b.cfg with count := v } }
  | .wrTrigkind v => { b with cfg := { b.cfg with kind := writtenKind b.cfg.kind v } }
  | .wrTrigpin v => { b with cfg := { b.cfg with pin := writtenPin v, edge := writtenEdge v } }
  | .wrTrigbyte v => { b with cfg := { b.cfg with byte := writtenByte v } }
  | .wrFlags v => { b with aux := writtenAux v }
  | .wrOutctl v => { b with cfg := { b.cfg with outEn := writtenOutEn v, invEn := writtenInvEn v } }
  | .wrUartdiv v => { b with cfg := { b.cfg with uartdiv := writtenDiv b.cfg.uartdiv v } }
  | .rdCmd | .rdStatus | .rdPause | .rdWidth | .rdGap | .rdCount | .rdTrigkind | .rdTrigpin | .rdTrigbyte | .rdGcount
  | .rdFlags | .rdOutctl | .rdUartdiv => b

/-- The RDATA an instruction answers with; 0 for a write (R100, R220). -/
def execRdata (i : Instr) (b : Block) : Word :=
  match i with
  | .rdCmd => 0
  | .rdStatus => statusWord b
  | .rdPause => b.cfg.pause
  | .rdWidth => b.cfg.width
  | .rdGap => b.cfg.gap
  | .rdCount => b.cfg.count
  | .rdTrigkind => trigkindWord b.cfg.kind
  | .rdTrigpin => trigpinWord b.cfg.pin b.cfg.edge
  | .rdTrigbyte => trigbyteWord b.cfg.byte
  | .rdGcount => b.gcount
  | .rdFlags => flagsWord b
  | .rdOutctl => outctlWord b.cfg.outEn b.cfg.invEn
  | .rdUartdiv => b.cfg.uartdiv
  | .cmdArm | .cmdDisarm | .cmdExecute | .cmdReset | .cmdPoll | .cmdIllegal _ | .wrPause _ | .wrWidth _ | .wrGap _
  | .wrCount _ | .wrTrigkind _ | .wrTrigpin _ | .wrTrigbyte _ | .wrFlags _ | .wrOutctl _ | .wrUartdiv _ => 0

/-- Every instruction answers with ERR = 0, and what it writes and reads depends on the block alone: not on the
schedule, the inputs to come, the cycle or the last response. -/
theorem exec_eq (i : Instr) (s : State) :
    exec i s = .next (s.respond (execBlock i s.blk) (execRdata i s.blk) false) := by
  cases i <;> rfl

theorem Block.afterTxn_of_ok {bits : Nat} {T : Trans} {i : Instr} (b : Block) (h : decodeAccess bits T = .ok i) :
    b.afterTxn bits T = execBlock i b := by
  simp [Block.afterTxn, h, exec_eq]

theorem Block.afterTxn_of_error {bits : Nat} {T : Trans} {cause : BusCause} (b : Block)
    (h : decodeAccess bits T = .error cause) : b.afterTxn bits T = b := by
  simp [Block.afterTxn, h]

/-! ### The step, one equation per kind of line (R12, R101) -/

/-- Past its end the schedule stays empty, and cycles go on (log 3). -/
theorem step_of_nil {s : State} (h : s.host = []) : step s = .next s.runCycle := by
  simp [step, State.takeLine_nil h]

theorem step_of_wait {s : State} {rest : List HostLine} (h : s.host = .wait :: rest) :
    step s = .next { s.runCycle with host := rest } := by
  rw [step, State.takeLine_cons h]
  rfl

theorem step_of_ok {s : State} {bits : Nat} {T : Trans} {rest : List HostLine} {i : Instr}
    (h : s.host = .txn bits T :: rest) (hd : decodeAccess bits T = .ok i) :
    step s = exec i { s with host := rest } := by
  simp [step, State.takeLine_cons h, hd]

theorem step_of_error {s : State} {bits : Nat} {T : Trans} {rest : List HostLine} {cause : BusCause}
    (h : s.host = .txn bits T :: rest) (hd : decodeAccess bits T = .error cause) :
    step s = busError { s with host := rest } := by
  simp [step, State.takeLine_cons h, hd]

/-- A transaction takes its line from the schedule and gives the block its effect and the bus a response, whether it is
executed or answered with BusError. -/
theorem step_of_txn {s : State} {bits : Nat} {T : Trans} {rest : List HostLine} (h : s.host = .txn bits T :: rest) :
    ∃ resp, step s = .next { s with host := rest, blk := s.blk.afterTxn bits T, resp := some resp } := by
  cases hd : decodeAccess bits T with
  | error cause =>
    rw [step_of_error h hd, Block.afterTxn_of_error _ hd]
    exact ⟨⟨0, true⟩, rfl⟩
  | ok i =>
    rw [step_of_ok h hd, exec_eq, Block.afterTxn_of_ok _ hd]
    exact ⟨⟨execRdata i s.blk, false⟩, rfl⟩

theorem step_answers (s : State) : ∃ t, step s = .next t := by
  match h : s.host with
  | [] => exact ⟨_, step_of_nil h⟩
  | .wait :: _ => exact ⟨_, step_of_wait h⟩
  | .txn _ _ :: _ =>
    obtain ⟨_, hs⟩ := step_of_txn h
    exact ⟨_, hs⟩

/-! ### Runs -/

theorem Reaches.zero (s : State) : Reaches 0 s s := rfl

/-- A run begins with its first step. -/
theorem Reaches.head {k : Nat} {s t u : State} (hs : step s = .next t) (h : Reaches k t u) : Reaches (k + 1) s u := by
  simpa [Reaches, runSteps, hs] using h

/-- The schedule up to the first wait: the transactions in issue order, then one cycle, whose inputs the transactions
cannot touch (R12). -/
theorem reaches_of_boundary (txns : List (Nat × Trans)) (rest : List HostLine) (s : State)
    (h : s.host = txns.map (fun x => HostLine.txn x.1 x.2) ++ .wait :: rest) :
    ∃ resp, Reaches (txns.length + 1) s
      ⟨hwStep Config.params s.inputsNow (s.blk.afterBoundary txns), rest, s.env.tail, s.cycle + 1, resp⟩ := by
  induction txns generalizing s with
  | nil => exact ⟨s.resp, .head (step_of_wait h) (.zero _)⟩
  | cons x txns ih =>
    obtain ⟨resp, hs⟩ := step_of_txn h
    obtain ⟨resp', hr⟩ := ih ⟨s.blk.afterTxn x.1 x.2, _, s.env, s.cycle, some resp⟩ rfl
    exact ⟨resp', .head hs hr⟩

/-! ### The obligations -/

/-- Settles O9: each kind of line has an equation for its step, and each instruction one for its answer. -/
theorem blockNeverHalts : Obligations.BlockNeverHalts :=
  ⟨step_answers, fun i s => ⟨execBlock i s.blk, execRdata i s.blk, exec_eq i s⟩⟩

/-- Settles O10, by induction on the boundary's transactions. -/
theorem boundaryThenCycle : Obligations.BoundaryThenCycle := by
  intro s txns rest h
  obtain ⟨_, hr⟩ := reaches_of_boundary txns rest s h
  exact ⟨_, hr, rfl, rfl, rfl, rfl⟩

/-- Settles O7: an access of 32 bits is decoded as its transaction. -/
theorem stepRunsDecoded : Obligations.StepRunsDecoded := by
  intro s T rest i h hd
  exact ⟨decode_wf hd, step_of_ok h ((decodeAccess_32 T).trans hd)⟩

/-- Settles O8: a wait leaves the schedule; an empty schedule is its own tail. -/
theorem stepRunsCycle : Obligations.StepRunsCycle := by
  rintro s (hw | hn)
  · obtain ⟨rest, h⟩ := List.head?_eq_some_iff.mp hw
    rw [step_of_wait h, h]
    rfl
  · rw [step_of_nil hn, State.runCycle, hn]
    rfl

end Sys2Proof.Machine
end

/-!
PROOF. What a step and each instruction can do to the block, and the obligations of the state chapter (R32 to R63): the
reset value, the invariants, the outputs, who writes each element, and the STATUS and FLAGS words.
-/

namespace Sys2Proof

theorem Params.Legal.three_le_floor {P : Params} (h : P.Legal) : 3 ≤ P.floor := h.1

theorem Params.Legal.debounce_le {P : Params} (h : P.Legal) : P.debounce ≤ 65536 := h.2.2.2.1

end Sys2Proof

namespace Sys2Proof.Machine

/-! ### What a step does to the block -/

theorem exec_eq_next {i : Instr} {s t : State} :
    exec i s = .next t ↔ t = s.respond (execBlock i s.blk) (execRdata i s.blk) false := by
  rw [exec_eq, Host.Outcome.next.injEq, eq_comm]

theorem exec_blk {i : Instr} {s t : State} (h : exec i s = .next t) : t.blk = execBlock i s.blk := by
  rw [exec_eq_next.mp h, State.respond_blk]

/-- A step gives the block a cycle, leaves it for a BusError, or gives it the effect of the instruction its transaction
decodes to. -/
theorem step_blk {s t : State} (h : step s = .next t) :
    ((s.host.head? = some .wait ∨ s.host = []) ∧ t.blk = hwStep Config.params s.inputsNow s.blk) ∨
    t.blk = s.blk ∨
    ∃ T rest i, s.host = .txn 32 T :: rest ∧ decode T = .ok i ∧ t.blk = execBlock i s.blk := by
  rcases step_cases h with ⟨hline, rfl⟩ | ⟨_, _, _, _, _, _, rfl⟩ | ⟨T, rest, i, hhost, hd, he⟩
  · exact .inl ⟨hline, rfl⟩
  · exact .inr (.inl rfl)
  · exact .inr (.inr ⟨T, rest, i, hhost, hd, by rw [exec_blk he]⟩)

/-- A property of the block that every cycle and every instruction keeps is kept by every step. -/
theorem step_keeps {p : Block → Prop} (hcycle : ∀ inp b, p b → p (hwStep Config.params inp b))
    (hexec : ∀ i b, p b → p (execBlock i b)) {s t : State} (h : step s = .next t) (hs : p s.blk) : p t.blk := by
  rcases step_blk h with ⟨_, ht⟩ | ht | ⟨_, _, i, _, _, ht⟩ <;> rw [ht]
  · exact hcycle _ _ hs
  · exact hs
  · exact hexec i _ hs

/-- A step that changes what no cycle changes executes an instruction. -/
theorem instr_of_step_changes {α : Type} (f : Block → α)
    (hcycle : ∀ inp b, f (hwStep Config.params inp b) = f b) {s t : State} (h : step s = .next t)
    (hne : f t.blk ≠ f s.blk) :
    ∃ T rest i, s.host = .txn 32 T :: rest ∧ decode T = .ok i ∧ t.blk = execBlock i s.blk := by
  rcases step_blk h with ⟨_, ht⟩ | ht | hi
  · exact absurd (ht ▸ hcycle _ _) hne
  · exact absurd (congrArg f ht) hne
  · exact hi

/-! ### What each command can do -/

theorem armCommand_result (P : Params) (b : Block) : (armCommand P b).result = armCheck P b := by
  rcases armCommand_cases P b with ⟨hc, h⟩ | ⟨_, h⟩
  · rw [h, hc, Block.withResult_result]
  · rw [h, Block.withResult_result]

/-- DISARM takes its effects on an armed block, and always succeeds (R194). -/
theorem disarmCommand_cases (b : Block) :
    (b.armed = true ∧ disarmCommand b = b.disarmEffects.withResult .ok) ∨
      (b.armed = false ∧ disarmCommand b = b.withResult .ok) := by
  unfold disarmCommand
  cases b.armed
  · exact .inr ⟨rfl, rfl⟩
  · exact .inl ⟨rfl, rfl⟩

/-- A block that EXECUTE fires: FIRED set, the generator released, the glitch counted (R195, R196). -/
def Block.executeRelease (P : Params) (b : Block) : Block := ({ b with fired := true }.releaseDirect P).countGlitch

theorem Block.executeRelease_eq (P : Params) (b : Block) : b.executeRelease P =
    { b with
      fired := true
      gcount := b.gcount + 1
      pg := if b.pg.st = .wait then (startSequence P b.pg b.q).1 else b.pg
      q := if b.pg.st = .wait then (startSequence P b.pg b.q).2 else b.q } := by
  rw [executeRelease, releaseDirect_eq]
  rfl

/-- EXECUTE releases and disarms an armed block, and fails on a disarmed one (R195). -/
theorem executeCommand_cases (P : Params) (b : Block) :
    (b.armed = true ∧ executeCommand P b = (b.executeRelease P).disarmEffects.withResult .ok) ∨
      (b.armed = false ∧ executeCommand P b = b.withResult .errState) := by
  unfold executeCommand
  split
  · next h => exact .inl ⟨h, rfl⟩
  · next h => exact .inr ⟨Bool.eq_false_iff.mpr h, rfl⟩

/-- What RESET writes after its disarm (R199). -/
def Block.resetRegisters (P : Params) (b : Block) : Block :=
  { b with cfg := defaultCfg P, aux := 0, gcount := 0, fired := false, result := .ok }

/-- RESET disarms an armed block, and writes its registers in any case (R198, R199). -/
theorem resetCommand_cases (P : Params) (b : Block) :
    (b.armed = true ∧ resetCommand P b = b.disarmEffects.resetRegisters P) ∨
      (b.armed = false ∧ resetCommand P b = b.resetRegisters P) := by
  unfold resetCommand
  cases b.armed
  · exact .inr ⟨rfl, rfl⟩
  · exact .inl ⟨rfl, rfl⟩

/-- POLL counts and disarms an armed block whose queue is empty, and leaves any other (R202). -/
theorem pollCommand_cases (b : Block) :
    (b.armed = true ∧ b.q = [] ∧ pollCommand b = b.countGlitch.disarmEffects.withResult .ok) ∨
      (¬(b.armed = true ∧ b.q = []) ∧ pollCommand b = b.withResult .ok) := by
  unfold pollCommand
  split
  · next h =>
    obtain ⟨ha, hq⟩ := h
    exact .inl ⟨ha, List.length_eq_zero_iff.mp hq, rfl⟩
  · next h => exact .inr ⟨by rwa [List.length_eq_zero_iff] at h, rfl⟩

/-! ### What an instruction can do -/

/-- What an instruction can do to the block, `b'` being the block after it: a register access writes CFG and AUX alone
(R89, R220), a command writes RESULT alone or takes its effects (R190 to R204). -/
inductive InstrEffect (i : Instr) (b b' : Block) : Prop where
  | access (c : Cfg) (a : BitVec 4) (hi : i.isCommand = false) (h : b' = { b with cfg := c, aux := a })
  | resultOnly (r : ResultCode) (hi : i.isCommand = true) (h : b' = b.withResult r)
  | arm (hi : i = .cmdArm) (hok : armCheck Config.params b = .ok) (h : b' = b.armEffects.withResult .ok)
  | disarm (hi : i = .cmdDisarm) (harmed : b.armed = true) (h : b' = b.disarmEffects.withResult .ok)
  | execute (hi : i = .cmdExecute) (harmed : b.armed = true)
      (h : b' = (b.executeRelease Config.params).disarmEffects.withResult .ok)
  | poll (hi : i = .cmdPoll) (harmed : b.armed = true) (h : b' = b.countGlitch.disarmEffects.withResult .ok)
  | resetArmed (hi : i = .cmdReset) (harmed : b.armed = true)
      (h : b' = b.disarmEffects.resetRegisters Config.params)
  | resetDisarmed (hi : i = .cmdReset) (harmed : b.armed = false) (h : b' = b.resetRegisters Config.params)

theorem execBlock_effect (i : Instr) (b : Block) : InstrEffect i b (execBlock i b) := by
  cases i
  case cmdArm =>
    rcases armCommand_cases Config.params b with ⟨hok, h⟩ | ⟨_, h⟩
    · exact .arm rfl hok h
    · exact .resultOnly _ rfl h
  case cmdDisarm =>
    rcases disarmCommand_cases b with ⟨ha, h⟩ | ⟨_, h⟩
    · exact .disarm rfl ha h
    · exact .resultOnly _ rfl h
  case cmdExecute =>
    rcases executeCommand_cases Config.params b with ⟨ha, h⟩ | ⟨_, h⟩
    · exact .execute rfl ha h
    · exact .resultOnly _ rfl h
  case cmdReset =>
    rcases resetCommand_cases Config.params b with ⟨ha, h⟩ | ⟨ha, h⟩
    · exact .resetArmed rfl ha h
    · exact .resetDisarmed rfl ha h
  case cmdPoll =>
    rcases pollCommand_cases b with ⟨ha, _, h⟩ | ⟨_, h⟩
    · exact .poll rfl ha h
    · exact .resultOnly _ rfl h
  case cmdIllegal => exact .resultOnly _ rfl rfl
  all_goals exact .access _ _ rfl rfl

theorem writtenDiv_ne_zero {old : Word} (h : old ≠ 0) (v : Word) : writtenDiv old v ≠ 0 := by
  unfold writtenDiv
  split
  · exact h
  · assumption

/-- No register access writes 0 to UARTDIV (R86, R235). -/
theorem execBlock_uartdiv_ne_zero {i : Instr} (hi : i.isCommand = false) {b : Block} (h : b.cfg.uartdiv ≠ 0) :
    (execBlock i b).cfg.uartdiv ≠ 0 := by
  cases i
  case cmdArm | cmdDisarm | cmdExecute | cmdReset | cmdPoll | cmdIllegal => cases hi
  case wrUartdiv v => exact writtenDiv_ne_zero h v
  all_goals exact h

/-! ### The detectors' steps -/

theorem gpioStep_off {P : Params} {edge : Edge} {s : Bool} {gd : Gd} :
    (gpioStep P edge s gd).1.st = .off ↔ gd.st = .off := by
  unfold gpioStep
  cases h : gd.st <;> simp only
  all_goals (repeat' split)
  all_goals simp [h]

theorem uartTick_off {byte : Byte} {s : Bool} {ud : Ud} : (uartTick byte s ud).1.st = .off ↔ ud.st = .off := by
  unfold uartTick
  cases h : ud.st <;> simp only
  all_goals (repeat' split)
  all_goals simp [h]

theorem uartStep_off {lat : Lat} {s : Bool} {ud : Ud} : (uartStep lat s ud).1.st = .off ↔ ud.st = .off := by
  unfold uartStep
  split
  · exact uartTick_off
  · rfl

theorem detStep_gd (P : Params) (inp : Inputs) (b : Block) : (detStep P inp b).gd =
    if b.gd.running = true then (gpioStep P b.lat.edge (inp.line b.lat.pin) b.gd).1 else b.gd := by
  simp only [detStep]
  split <;> rfl

theorem detStep_ud (P : Params) (inp : Inputs) (b : Block) : (detStep P inp b).ud =
    if b.ud.running = true then (uartStep b.lat inp.uartRx b.ud).1 else b.ud := by
  simp only [detStep]
  split <;> rfl

/-- A detector is off after a cycle exactly when it was off before: only commands start and stop it (R138, R139). -/
theorem detStep_gd_off {P : Params} {inp : Inputs} {b : Block} :
    (detStep P inp b).gd.st = .off ↔ b.gd.st = .off := by
  rw [detStep_gd]
  split
  · exact gpioStep_off
  · rfl

theorem detStep_ud_off {P : Params} {inp : Inputs} {b : Block} :
    (detStep P inp b).ud.st = .off ↔ b.ud.st = .off := by
  rw [detStep_ud]
  split
  · exact uartStep_off
  · rfl

theorem hwStep_gd_off {P : Params} {inp : Inputs} {b : Block} : (hwStep P inp b).gd.st = .off ↔ b.gd.st = .off :=
  detStep_gd_off

theorem hwStep_ud_off {P : Params} {inp : Inputs} {b : Block} : (hwStep P inp b).ud.st = .off ↔ b.ud.st = .off :=
  detStep_ud_off (P := P)

/-- The generator waits after a cycle exactly when it waited and nothing released it (R166). -/
theorem hwStep_wait {P : Params} {inp : Inputs} {b : Block} :
    (hwStep P inp b).pg.st = .wait ↔ b.pg.st = .wait ∧ b.release = false :=
  pgStep_st_eq_wait

theorem Gd.running_of_off {gd : Gd} (h : gd.st = .off) : gd.running = false := by simp [running, h]

theorem Ud.running_of_off {ud : Ud} (h : ud.st = .off) : ud.running = false := by simp [running, h]

theorem Gd.ne_off_of_running {gd : Gd} (h : gd.running = true) : gd.st ≠ .off :=
  fun hoff => by simp [running_of_off hoff] at h

theorem Ud.ne_off_of_running {ud : Ud} (h : ud.running = true) : ud.st ≠ .off :=
  fun hoff => by simp [running_of_off hoff] at h

/-- The detectors' step where both are off: nothing (R130). -/
theorem detStep_of_off {P : Params} {inp : Inputs} {b : Block} (hg : b.gd.st = .off) (hu : b.ud.st = .off) :
    detStep P inp b = ⟨b.gd, b.ud, false⟩ :=
  detStep_of_not_running (Gd.running_of_off hg) (Ud.running_of_off hu)

/-! ### The invariants of R63 -/

section Inv

variable {P : Params} {b : Block}

/-- What is neither of the arm cycle nor a divider is free in the invariants. -/
theorem Block.Inv.withRegisters (h : b.Inv P) {c : Cfg} (hc : c.uartdiv ≠ 0) (f : Bool) (a : BitVec 4) (g : Word)
    (r : ResultCode) : Block.Inv P { b with cfg := c, fired := f, aux := a, gcount := g, result := r } :=
  { h with divNonzero := ⟨hc, h.divNonzero.2⟩ }

theorem Block.Inv.withResult (h : b.Inv P) (r : ResultCode) : (b.withResult r).Inv P :=
  h.withRegisters h.divNonzero.1 ..

/-- ARM's effects establish the invariants where its checks pass (R190, R191). -/
theorem Block.armEffects_inv (hdiv : b.cfg.uartdiv ≠ 0) (hok : armCheck P b = .ok) : b.armEffects.Inv P := by
  obtain ⟨_, hpin, _⟩ := armCheck_eq_ok.mp hok
  rw [armEffects_eq]
  exact {
    queueLength := .inr rfl
    queueFull := ⟨fun _ => rfl, fun _ => rfl⟩
    waitArmed := fun _ => rfl
    gpioResident := fun hgd => ⟨by simpa using hgd, rfl⟩
    uartResident := fun hud => ⟨by simpa using hud, rfl⟩
    disarmed := nofun
    pinExists := fun _ hkind => not_le.mp fun hle => hpin ⟨hkind, hle⟩
    divNonzero := ⟨hdiv, hdiv⟩ }

/-- Disarming establishes the invariants from any state with nonzero dividers (R193). -/
theorem Block.disarmEffects_inv (hdiv : b.cfg.uartdiv ≠ 0 ∧ b.lat.div ≠ 0) : b.disarmEffects.Inv P := by
  have hst : b.disarmEffects.pg.st ≠ .wait := by
    rw [disarmEffects_pg]
    simp only
    split
    · nofun
    · assumption
  exact {
    queueLength := .inl rfl
    queueFull := ⟨nofun, fun hw => absurd hw hst⟩
    waitArmed := fun hw => absurd hw hst
    gpioResident := fun hgd => absurd rfl hgd
    uartResident := fun hud => absurd rfl hud
    disarmed := fun _ => ⟨rfl, rfl, rfl, hst⟩
    pinExists := nofun
    divNonzero := hdiv }

theorem Block.Inv.resetRegisters (h : b.Inv P) (hP : P.Legal) : (b.resetRegisters P).Inv P :=
  h.withRegisters (c := defaultCfg P) hP.uartdivReset_ne ..

/-- The queue after a cycle: full while the generator waits on, empty otherwise (R63 item 1). -/
theorem hwStep_queue_inv (h : b.Inv P) (inp : Inputs) :
    ((hwStep P inp b).q = [] ∨ (hwStep P inp b).q.length = 4) ∧
      ((hwStep P inp b).q.length = 4 ↔ (hwStep P inp b).pg.st = .wait) := by
  rw [hwStep_q, hwStep_pg, pgStep_q, pgStep_st_eq_wait, startSequence_q]
  simp only [← h.queueFull]
  rcases h.queueLength with hq | hq
  · simp [hq]
  · cases b.release <;> simp [hq]

/-- A cycle keeps the invariants (R172). -/
theorem hwStep_inv (h : b.Inv P) (inp : Inputs) : (hwStep P inp b).Inv P where
  queueLength := (hwStep_queue_inv h inp).1
  queueFull := (hwStep_queue_inv h inp).2
  waitArmed hst := h.waitArmed (hwStep_wait.mp hst).1
  gpioResident hgd := h.gpioResident (mt hwStep_gd_off.mpr hgd)
  uartResident hud := h.uartResident (mt hwStep_ud_off.mpr hud)
  disarmed harmed := by
    obtain ⟨hrel, hgd, hud, hst⟩ := h.disarmed harmed
    have hrel' : (hwStep P inp b).release = false := by simp [detStep_of_off hgd hud, hrel]
    exact ⟨hrel', hwStep_gd_off.mpr hgd, hwStep_ud_off.mpr hud, fun hw => hst (hwStep_wait.mp hw).1⟩
  pinExists := h.pinExists
  divNonzero := h.divNonzero

/-- An instruction keeps the invariants. -/
theorem execBlock_inv (h : b.Inv Config.params) (i : Instr) : (execBlock i b).Inv Config.params := by
  cases execBlock_effect i b with
  | access c a hi he =>
    have hdiv := execBlock_uartdiv_ne_zero hi h.divNonzero.1
    rw [he] at hdiv ⊢
    exact h.withRegisters hdiv ..
  | resultOnly r _ he => exact he ▸ h.withResult r
  | arm _ hok he => exact he ▸ (Block.armEffects_inv h.divNonzero.1 hok).withResult .ok
  | disarm _ _ he => exact he ▸ (Block.disarmEffects_inv h.divNonzero).withResult .ok
  | execute _ _ he =>
    have hdiv : (b.executeRelease Config.params).cfg.uartdiv ≠ 0 ∧ (b.executeRelease Config.params).lat.div ≠ 0 := by
      rw [Block.executeRelease_eq]
      exact h.divNonzero
    exact he ▸ (Block.disarmEffects_inv hdiv).withResult .ok
  | poll _ _ he => exact he ▸ (Block.disarmEffects_inv (b := b.countGlitch) h.divNonzero).withResult .ok
  | resetArmed _ _ he => exact he ▸ (Block.disarmEffects_inv h.divNonzero).resetRegisters Config.params_legal
  | resetDisarmed _ _ he => exact he ▸ h.resetRegisters Config.params_legal

end Inv

/-- Settles O14: a cycle and every instruction keep the invariants. -/
theorem stepKeepsInv : Obligations.StepKeepsInv :=
  fun _ _ hs h => step_keeps (p := Block.Inv Config.params) (fun inp _ hb => hwStep_inv hb inp)
    (fun i _ hb => execBlock_inv hb i) h hs

/-! ### The ranges of the counters, one working state at a time (R39 to R41, R164, R167) -/

/-- The ranges of the generator's counters: the part of `Block.Ranges` about PG. -/
structure Pg.InRange (P : Params) (pg : Pg) : Prop where
  cntPositive : pg.st = .pause ∨ pg.st = .high ∨ pg.st = .low → 1 ≤ pg.cnt.toNat
  clamped : pg.st = .pause ∨ pg.st = .high ∨ pg.st = .low → P.floor ≤ pg.w.toNat ∧ P.floor ≤ pg.g.toNat
  repsPositive : pg.st = .high ∨ pg.st = .low → 1 ≤ pg.reps.toNat
  cntBounded : (pg.st = .high → pg.cnt.toNat ≤ pg.w.toNat) ∧ (pg.st = .low → pg.cnt.toNat ≤ pg.g.toNat)

/-- The ranges of the GPIO detector's count: the part of `Block.Ranges` about GD. -/
structure Gd.InRange (P : Params) (gd : Gd) : Prop where
  bounded : gd.k.toNat ≤ P.debounce
  counting : gd.st = .qual → 1 ≤ gd.k.toNat ∧ gd.k.toNat < P.debounce
  cleared : gd.st = .off → gd.k = 0

/-- The ranges of the UART detector's counts under a divider: the part of `Block.Ranges` about UD. -/
structure Ud.InRange (div : Word) (ud : Ud) : Prop where
  tickCount : ud.tc.toNat < div.toNat
  bitTicks : ud.k.toNat ≤ 8 ∧ (ud.st = .start → ud.k.toNat < 4) ∧ (ud.st = .data → ud.k.toNat < 8)
  cleared : ud.st = .off → ud = ⟨.off, 0, 0, 0, 0⟩

/-- What the detectors and RELEASE say of the generator (R168, R172): the rest of `Block.Ranges`. -/
structure Block.Linked (b : Block) : Prop where
  detecting : b.gd.running = true ∨ b.ud.running = true → b.fired = false ∧ b.release = false ∧ b.pg.st = .wait
  released : b.release = true → b.fired = true ∧ b.pg.st = .wait

theorem Block.ranges_iff {P : Params} {b : Block} :
    b.Ranges P ↔ b.pg.InRange P ∧ b.gd.InRange P ∧ b.ud.InRange b.lat.div ∧ b.Linked := by
  constructor
  · intro h
    exact ⟨⟨h.cntPositive, h.clamped, h.repsPositive, h.cntBounded⟩,
      ⟨h.debounceCount.1, h.debounceCount.2, h.offCleared.1⟩, ⟨h.tickCount, h.bitTicks, h.offCleared.2⟩,
      ⟨h.detecting, h.released⟩⟩
  · rintro ⟨hpg, hgd, hud, hlink⟩
    exact ⟨hpg.cntPositive, hpg.clamped, hpg.repsPositive, hpg.cntBounded, ⟨hgd.bounded, hgd.counting⟩, hud.tickCount,
      hud.bitTicks, ⟨hgd.cleared, hud.cleared⟩, hlink.detecting, hlink.released⟩

/-! ### The generator keeps its ranges -/

theorem Pg.inRange_of_idle {P : Params} {pg : Pg} (h : pg.st = .stopped ∨ pg.st = .wait) : pg.InRange P := by
  constructor <;> rcases h with h | h <;> simp [h]

theorem Pg.beginPulses_inRange {P : Params} (hP : P.Legal) {pg : Pg} (hw : P.floor ≤ pg.w.toNat)
    (hg : P.floor ≤ pg.g.toNat) : pg.beginPulses.InRange P := by
  have hfloor := hP.three_le_floor
  rcases pg.beginPulses_cases with ⟨hreps, h⟩ | ⟨_, h⟩ <;> rw [h]
  · exact ⟨fun _ => by simp only; omega, fun _ => ⟨hw, hg⟩, fun _ => hreps, ⟨fun _ => le_rfl, nofun⟩⟩
  · exact inRange_of_idle (.inl rfl)

/-- A sequence starts in range, whatever words it takes (R164, R165). -/
theorem startSequence_inRange {P : Params} (hP : P.Legal) (pg : Pg) (q : List Word) :
    (startSequence P pg q).1.InRange P := by
  have hclamp (v : Word) : P.floor ≤ (clamp P v).toNat := by
    rw [clamp_toNat hP]
    exact le_max_right ..
  unfold startSequence
  simp only
  split
  · next hpause => exact ⟨fun _ => hpause, fun _ => ⟨hclamp _, hclamp _⟩, by simp, by simp⟩
  · exact Pg.beginPulses_inRange hP (hclamp _) (hclamp _)

/-- A counter that does not reach 0 when it is counted down stays positive and does not grow. -/
theorem toNat_sub_one {v : Word} (h : 1 ≤ v.toNat) (h0 : v - 1 ≠ 0) :
    1 ≤ (v - 1).toNat ∧ (v - 1).toNat ≤ v.toNat := by
  bv_omega

/-- A phase that goes on keeps the ranges (R167). -/
theorem Pg.InRange.countDown {P : Params} {pg : Pg} (h : pg.InRange P)
    (hst : pg.st = .pause ∨ pg.st = .high ∨ pg.st = .low) (h0 : pg.cnt - 1 ≠ 0) :
    Pg.InRange P { pg with cnt := pg.cnt - 1 } := by
  obtain ⟨hpos, hle⟩ := toNat_sub_one (h.cntPositive hst) h0
  exact { h with
    cntPositive := fun _ => hpos
    cntBounded := ⟨fun hh => hle.trans (h.cntBounded.1 hh), fun hl => hle.trans (h.cntBounded.2 hl)⟩ }

/-- The generator's step keeps the ranges (R166 to R168). -/
theorem pgStep_inRange {P : Params} (hP : P.Legal) {pg : Pg} (h : pg.InRange P) (release : Bool) (q : List Word) :
    (pgStep P release pg q).1.InRange P := by
  have hfloor := hP.three_le_floor
  unfold pgStep
  cases hst : pg.st with
  | stopped => exact h
  | wait =>
    cases release
    · exact h
    · exact startSequence_inRange hP pg q
  | pause =>
    obtain ⟨hw, hg⟩ := h.clamped (.inl hst)
    simp only
    split
    · exact Pg.beginPulses_inRange hP hw hg
    · simpa only [hst] using h.countDown (.inl hst) ‹_›
  | high =>
    obtain ⟨hw, hg⟩ := h.clamped (.inr (.inl hst))
    have hreps := h.repsPositive (.inl hst)
    simp only
    split
    · exact ⟨fun _ => by simp only; omega, fun _ => ⟨hw, hg⟩, fun _ => hreps, ⟨nofun, fun _ => le_rfl⟩⟩
    · simpa only [hst] using h.countDown (.inr (.inl hst)) ‹_›
  | low =>
    obtain ⟨hw, hg⟩ := h.clamped (.inr (.inr hst))
    simp only
    split
    · split
      · next hreps => exact ⟨fun _ => by simp only; omega, fun _ => ⟨hw, hg⟩, fun _ => hreps, ⟨fun _ => le_rfl, nofun⟩⟩
      · exact Pg.inRange_of_idle (.inl rfl)
    · simpa only [hst] using h.countDown (.inr (.inr hst)) ‹_›

/-! ### The detectors keep their ranges -/

/-- The GPIO detector's step keeps the range of its count: it never wraps, since P_DEBOUNCE has 17 bits (R134). -/
theorem gpioStep_inRange {P : Params} (hP : P.Legal) {gd : Gd} (h : gd.InRange P) (edge : Edge) (s : Bool) :
    (gpioStep P edge s gd).1.InRange P := by
  have hlo := hP.debounce_pos
  have hhi := hP.debounce_le
  unfold gpioStep
  cases hst : gd.st with
  | off | done => exact h
  | waitIdle =>
    simp only
    split
    · exact ⟨h.bounded, by simp, by simp⟩
    · exact h
  | waitActive =>
    simp only
    split
    · split
      · exact ⟨h.bounded, by simp, by simp⟩
      · constructor <;> simp <;> omega
    · exact h
  | qual =>
    obtain ⟨hk, hlt⟩ := h.counting hst
    have hsucc : (gd.k + 1).toNat = gd.k.toNat + 1 := by bv_omega
    simp only [hsucc]
    split
    · split <;> constructor <;> simp only [hsucc] <;> simp <;> omega
    · constructor <;> simp

/-- The divider's count stays below a divider that is not 0 (R141). -/
theorem nextTc_lt {div : Word} (h : div ≠ 0) (tc : Word) : (nextTc tc div).toNat < div.toNat := by
  have hpos : 0 < div.toNat := by bv_omega
  have hmod := Nat.mod_lt (tc.toNat + 1) hpos
  rw [nextTc, if_neg h, BitVec.toNat_ofNat, Nat.mod_eq_of_lt (hmod.trans div.isLt)]
  exact hmod

/-- A tick of a detector that runs keeps the ranges (R142). -/
theorem uartTick_inRange {div : Word} {ud : Ud} (htc : ud.tc.toNat < div.toNat)
    (hticks : ud.k.toNat ≤ 8 ∧ (ud.st = .start → ud.k.toNat < 4) ∧ (ud.st = .data → ud.k.toNat < 8))
    (hoff : ud.st ≠ .off) (byte : Byte) (s : Bool) : (uartTick byte s ud).1.InRange div := by
  obtain ⟨hk, hstart, hdata⟩ := hticks
  unfold uartTick
  cases hst : ud.st with
  | off => exact absurd hst hoff
  | done => exact ⟨htc, ⟨hk, hstart, hdata⟩, fun h => absurd h hoff⟩
  | waitIdle =>
    simp only
    split <;> exact ⟨htc, ⟨hk, by simp [hst], by simp [hst]⟩, by simp [hst]⟩
  | waitStart =>
    simp only
    split
    · exact ⟨htc, ⟨hk, by simp [hst], by simp [hst]⟩, by simp [hst]⟩
    · exact ⟨htc, ⟨by simp, by simp, nofun⟩, nofun⟩
  | start =>
    have hlt := hstart hst
    simp only
    split
    · split
      · exact ⟨htc, ⟨by simp only; bv_omega, nofun, nofun⟩, nofun⟩
      · exact ⟨htc, ⟨by simp, nofun, by simp⟩, nofun⟩
    · exact ⟨htc, ⟨by simp only; bv_omega, fun _ => by simp only; bv_omega, nofun⟩, nofun⟩
  | data =>
    have hlt := hdata hst
    simp only
    split
    · split
      · split <;> exact ⟨htc, ⟨by simp, nofun, nofun⟩, nofun⟩
      · exact ⟨htc, ⟨by simp, nofun, by simp⟩, nofun⟩
    · exact ⟨htc, ⟨by simp only; bv_omega, nofun, fun _ => by simp only; bv_omega⟩, nofun⟩

/-- The UART detector's step keeps the ranges of its counts under a divider that is not 0 (R141). -/
theorem uartStep_inRange {lat : Lat} (hdiv : lat.div ≠ 0) {ud : Ud} (h : ud.InRange lat.div) (hoff : ud.st ≠ .off)
    (s : Bool) : (uartStep lat s ud).1.InRange lat.div := by
  have htc := nextTc_lt hdiv ud.tc
  unfold uartStep
  split
  · exact uartTick_inRange (ud := { ud with tc := nextTc ud.tc lat.div }) htc h.bitTicks hoff lat.byte s
  · exact ⟨htc, h.bitTicks, fun hst => absurd hst hoff⟩

theorem detStep_gd_inRange {P : Params} (hP : P.Legal) {b : Block} (h : b.gd.InRange P) (inp : Inputs) :
    (detStep P inp b).gd.InRange P := by
  rw [detStep_gd]
  split
  · exact gpioStep_inRange hP h ..
  · exact h

theorem detStep_ud_inRange {P : Params} {b : Block} (hdiv : b.lat.div ≠ 0) (h : b.ud.InRange b.lat.div)
    (inp : Inputs) : (detStep P inp b).ud.InRange b.lat.div := by
  rw [detStep_ud]
  split
  · next hrun => exact uartStep_inRange hdiv h (Ud.ne_off_of_running hrun) _
  · exact h

/-! ### A cycle keeps the link between the detectors and the generator (R130, R172) -/

/-- RESIDENT tells which detector can run: never both (R63 item 3). -/
theorem Block.Inv.not_both_running {P : Params} {b : Block} (h : b.Inv P) :
    ¬(b.gd.running = true ∧ b.ud.running = true) := by
  rintro ⟨hg, hu⟩
  have hgpio := (h.gpioResident (Gd.ne_off_of_running hg)).1
  have huart := (h.uartResident (Ud.ne_off_of_running hu)).1
  exact absurd (hgpio.symm.trans huart) (by decide)

theorem uartStep_fired_done {lat : Lat} {s : Bool} {ud : Ud} (h : (uartStep lat s ud).2 = true) :
    (uartStep lat s ud).1.st = .done := by
  unfold uartStep at h ⊢
  split at h
  · next htick => rw [if_pos htick]; exact (uartTick_fired h).1
  · cases h

/-- A fire comes from a running detector, which is then done (R131). -/
theorem detStep_fired_done {P : Params} {inp : Inputs} {b : Block} (h : (detStep P inp b).fired = true) :
    (b.gd.running = true ∧ (detStep P inp b).gd.st = .done) ∨
      (b.ud.running = true ∧ (detStep P inp b).ud.st = .done) := by
  rw [detStep_gd, detStep_ud]
  simp only [detStep, Bool.or_eq_true] at h
  rcases h with h | h <;> split at h
  · next hrun => rw [if_pos hrun]; exact .inl ⟨hrun, (gpioStep_fired h).1⟩
  · cases h
  · next hrun => rw [if_pos hrun]; exact .inr ⟨hrun, uartStep_fired_done h⟩
  · cases h

theorem detStep_gd_running {P : Params} {inp : Inputs} {b : Block} (h : (detStep P inp b).gd.running = true) :
    b.gd.running = true := by
  rw [detStep_gd] at h
  split at h <;> assumption

theorem detStep_ud_running {P : Params} {inp : Inputs} {b : Block} (h : (detStep P inp b).ud.running = true) :
    b.ud.running = true := by
  rw [detStep_ud] at h
  split at h <;> assumption

/-- After a fire neither detector runs: the one that fired is done, and the other did not run (R130, R131). -/
theorem Block.Inv.not_running_of_fired {P : Params} {inp : Inputs} {b : Block} (h : b.Inv P)
    (hf : (detStep P inp b).fired = true) :
    ¬((detStep P inp b).gd.running = true ∨ (detStep P inp b).ud.running = true) := by
  have hnot := h.not_both_running
  rintro (hrun | hrun) <;> rcases detStep_fired_done hf with ⟨hold, hdone⟩ | ⟨hold, hdone⟩
  · simp [Gd.running, hdone] at hrun
  · exact hnot ⟨detStep_gd_running hrun, hold⟩
  · exact hnot ⟨hold, detStep_ud_running (P := P) hrun⟩
  · simp [Ud.running, hdone] at hrun

/-- A set RELEASE is consumed in the next cycle, so it is set after a cycle exactly by a fire (R166, R172). -/
theorem Block.Linked.hwStep_release {b : Block} (h : b.Linked) (P : Params) (inp : Inputs) :
    (hwStep P inp b).release = (detStep P inp b).fired := by
  rw [Machine.hwStep_release]
  cases hr : b.release
  · rfl
  · simp [consumes, (h.released hr).2, hr]

theorem hwStep_linked {P : Params} {b : Block} (hinv : b.Inv P) (h : b.Linked) (inp : Inputs) :
    (hwStep P inp b).Linked where
  detecting hrun := by
    obtain ⟨hfired, hrel, hwait⟩ := h.detecting (hrun.imp detStep_gd_running (detStep_ud_running (P := P)))
    have hno : (detStep P inp b).fired = false :=
      Bool.eq_false_iff.mpr fun hf => hinv.not_running_of_fired hf hrun
    exact ⟨by rw [hwStep_fired, hfired, hno]; rfl, by rw [h.hwStep_release, hno], hwStep_wait.mpr ⟨hwait, hrel⟩⟩
  released hset := by
    rw [h.hwStep_release] at hset
    obtain ⟨_, hrel, hwait⟩ := h.detecting ((detStep_fired_done hset).imp And.left And.left)
    exact ⟨by rw [hwStep_fired, hset, Bool.or_true], hwStep_wait.mpr ⟨hwait, hrel⟩⟩

/-! ### Every step keeps the ranges -/

/-- A cycle keeps the ranges (R172). -/
theorem hwStep_ranges {P : Params} (hP : P.Legal) {b : Block} (hinv : b.Inv P) (h : b.Ranges P) (inp : Inputs) :
    (hwStep P inp b).Ranges P := by
  obtain ⟨hpg, hgd, hud, hlink⟩ := Block.ranges_iff.mp h
  exact Block.ranges_iff.mpr ⟨pgStep_inRange hP hpg .., detStep_gd_inRange hP hgd inp,
    detStep_ud_inRange (P := P) hinv.divNonzero.2 hud inp, hwStep_linked hinv hlink inp⟩

/-- Registers and RESULT are free in the ranges. -/
theorem Block.Ranges.withRegisters {P : Params} {b : Block} (h : b.Ranges P) (c : Cfg) (a : BitVec 4) (g : Word)
    (r : ResultCode) : Block.Ranges P { b with cfg := c, aux := a, gcount := g, result := r } :=
  { h with }

theorem Block.Ranges.withResult {P : Params} {b : Block} (h : b.Ranges P) (r : ResultCode) :
    (b.withResult r).Ranges P :=
  h.withRegisters ..

theorem Gd.off_inRange (P : Params) : Gd.InRange P ⟨.off, 0⟩ := ⟨Nat.zero_le _, nofun, fun _ => rfl⟩

theorem Ud.off_inRange {div : Word} (h : div ≠ 0) : Ud.InRange div ⟨.off, 0, 0, 0, 0⟩ :=
  ⟨by simp only; bv_omega, ⟨by decide, nofun, nofun⟩, fun _ => rfl⟩

/-- Where no detector runs and RELEASE is clear, nothing is said of the generator. -/
theorem Block.linked_of_off {b : Block} (hgd : b.gd.st = .off) (hud : b.ud.st = .off) (hrel : b.release = false) :
    b.Linked where
  detecting hrun := by simp [Gd.running_of_off hgd, Ud.running_of_off hud] at hrun
  released hset := by simp [hrel] at hset

/-- Disarming keeps the generator's ranges and clears the rest (R193). -/
theorem Block.disarmEffects_ranges {P : Params} {b : Block} (hpg : b.pg.InRange P) (hdiv : b.lat.div ≠ 0) :
    b.disarmEffects.Ranges P := by
  refine ranges_iff.mpr ⟨?_, Gd.off_inRange P, Ud.off_inRange hdiv, linked_of_off rfl rfl rfl⟩
  rw [disarmEffects_pg]
  split
  · exact Pg.inRange_of_idle (.inl rfl)
  · exact hpg

/-- ARM's effects establish the ranges (R191). -/
theorem Block.armEffects_ranges {P : Params} {b : Block} (hdiv : b.cfg.uartdiv ≠ 0) : b.armEffects.Ranges P := by
  rw [armEffects_eq]
  refine ranges_iff.mpr ⟨Pg.inRange_of_idle (.inr rfl), ⟨by simp, ?_, by simp⟩, ⟨by simp only; bv_omega, ?_, ?_⟩,
    ⟨fun _ => ⟨rfl, rfl, rfl⟩, by simp⟩⟩
  all_goals simp only; split <;> simp

/-- EXECUTE's release leaves the generator in range (R196). -/
theorem Block.executeRelease_inRange {P : Params} (hP : P.Legal) {b : Block} (h : b.pg.InRange P) :
    (b.executeRelease P).pg.InRange P := by
  rw [executeRelease_eq]
  simp only
  split
  · exact startSequence_inRange hP ..
  · exact h

/-- RESET's writes keep the ranges of a block that is disarmed: FIRED is cleared where RELEASE is clear and no detector
runs (R199). -/
theorem Block.Ranges.resetRegisters {P : Params} {b : Block} (hinv : b.Inv P) (h : b.Ranges P) (ha : b.armed = false) :
    (b.resetRegisters P).Ranges P := by
  obtain ⟨hrel, hgd, hud, _⟩ := hinv.disarmed ha
  obtain ⟨hpg', hgd', hud', _⟩ := ranges_iff.mp h
  exact ranges_iff.mpr ⟨hpg', hgd', hud', linked_of_off hgd hud hrel⟩

/-- An instruction keeps the ranges. -/
theorem execBlock_ranges {b : Block} (hinv : b.Inv Config.params) (h : b.Ranges Config.params) (i : Instr) :
    (execBlock i b).Ranges Config.params := by
  obtain ⟨hcdiv, hldiv⟩ := hinv.divNonzero
  have hpg := (Block.ranges_iff.mp h).1
  cases execBlock_effect i b with
  | access c a _ he => exact he ▸ h.withRegisters ..
  | resultOnly r _ he => exact he ▸ h.withResult r
  | arm _ _ he => exact he ▸ (Block.armEffects_ranges hcdiv).withResult .ok
  | disarm _ _ he => exact he ▸ (Block.disarmEffects_ranges hpg hldiv).withResult .ok
  | execute _ _ he =>
    have hdiv : (b.executeRelease Config.params).lat.div ≠ 0 := by
      rw [Block.executeRelease_eq]
      exact hldiv
    exact he ▸ (Block.disarmEffects_ranges (Block.executeRelease_inRange Config.params_legal hpg) hdiv).withResult .ok
  | poll _ _ he => exact he ▸ (Block.disarmEffects_ranges (b := b.countGlitch) hpg hldiv).withResult .ok
  | resetArmed _ _ he =>
    exact he ▸ (Block.disarmEffects_ranges hpg hldiv).resetRegisters (Block.disarmEffects_inv hinv.divNonzero) rfl
  | resetDisarmed _ ha he => exact he ▸ h.resetRegisters hinv ha

/-- Settles O15: the ranges and the invariants together are kept by a cycle and by every instruction. -/
theorem stepKeepsRanges : Obligations.StepKeepsRanges := by
  intro s t hs h
  have hgood := step_keeps (p := fun b => b.Inv Config.params ∧ b.Ranges Config.params)
    (fun inp _ hb => ⟨hwStep_inv hb.1 inp, hwStep_ranges Config.params_legal hb.1 hb.2 inp⟩)
    (fun i _ hb => ⟨execBlock_inv hb.1 i, execBlock_ranges hb.1 hb.2 i⟩) h hs
  exact hgood.2

/-! ### The reset state (R62) -/

/-- Settles O11: the reset state is written down element by element. -/
theorem powerOnReset : Obligations.PowerOnReset := rfl

theorem Block.reset_inv {P : Params} (hP : P.Legal) : (Block.reset P).Inv P where
  queueLength := .inl rfl
  queueFull := by simp [Block.reset]
  waitArmed := nofun
  gpioResident h := absurd rfl h
  uartResident h := absurd rfl h
  disarmed _ := ⟨rfl, rfl, rfl, nofun⟩
  pinExists := nofun
  divNonzero := ⟨hP.uartdivReset_ne, hP.uartdivReset_ne⟩

theorem Block.reset_ranges {P : Params} (hP : P.Legal) : (Block.reset P).Ranges P :=
  ranges_iff.mpr ⟨Pg.inRange_of_idle (.inl rfl), Gd.off_inRange P, Ud.off_inRange hP.uartdivReset_ne,
    linked_of_off rfl rfl rfl⟩

/-- Settles O13: at reset all is off, and both dividers are the nonzero P_UARTDIV_RESET. -/
theorem resetIsGood : Obligations.ResetIsGood :=
  ⟨Block.reset_inv Config.params_legal, Block.reset_ranges Config.params_legal⟩

/-! ### Who writes what (R33 to R46) -/

theorem execBlock_armed_cases (i : Instr) (b : Block) :
    (execBlock i b).armed = b.armed ∨ ((execBlock i b).armed = true ∧ i = .cmdArm) ∨
      ((execBlock i b).armed = false ∧ (i = .cmdDisarm ∨ i = .cmdExecute ∨ i = .cmdPoll ∨ i = .cmdReset)) := by
  cases execBlock_effect i b with
  | access _ _ _ he | resultOnly _ _ he | resetDisarmed _ _ he => exact .inl (by simp [he, Block.resetRegisters])
  | arm hi _ he => exact .inr (.inl ⟨by simp [he, Block.armEffects_eq], hi⟩)
  | disarm hi _ he => exact .inr (.inr ⟨by simp [he], .inl hi⟩)
  | execute hi _ he => exact .inr (.inr ⟨by simp [he], .inr (.inl hi)⟩)
  | poll hi _ he => exact .inr (.inr ⟨by simp [he], .inr (.inr (.inl hi))⟩)
  | resetArmed hi _ he => exact .inr (.inr ⟨by simp [he, Block.resetRegisters], .inr (.inr (.inr hi))⟩)

/-- Settles O45: no cycle writes ARMED, and of the instructions only the five commands. -/
theorem armedWriters : Obligations.ArmedWriters := by
  intro s t h hne
  obtain ⟨T, rest, i, hhost, hd, ht⟩ := instr_of_step_changes Block.armed (fun _ _ => rfl) h hne
  refine ⟨T, rest, i, hhost, hd, ?_⟩
  rw [ht] at hne ⊢
  rcases execBlock_armed_cases i s.blk with hsame | ⟨hset, hi⟩ | ⟨hclear, hi⟩
  · exact absurd hsame hne
  · rwa [if_pos hset]
  · rwa [if_neg (by simp [hclear])]

theorem execBlock_fired_cases (i : Instr) (b : Block) :
    (execBlock i b).fired = b.fired ∨ ((execBlock i b).fired = true ∧ i = .cmdExecute) ∨
      ((execBlock i b).fired = false ∧ (i = .cmdArm ∨ i = .cmdReset)) := by
  cases execBlock_effect i b with
  | access _ _ _ he | resultOnly _ _ he | disarm _ _ he | poll _ _ he => exact .inl (by simp [he])
  | arm hi _ he => exact .inr (.inr ⟨by simp [he, Block.armEffects_eq], .inl hi⟩)
  | execute hi _ he => exact .inr (.inl ⟨by simp [he, Block.executeRelease_eq], hi⟩)
  | resetArmed hi _ he | resetDisarmed hi _ he => exact .inr (.inr ⟨by simp [he, Block.resetRegisters], .inr hi⟩)

/-- Settles O46: a cycle can only set FIRED, by a fire; of the instructions EXECUTE sets it, ARM and RESET clear it. -/
theorem firedWriters : Obligations.FiredWriters := by
  intro s t h hne
  rcases step_blk h with ⟨hline, ht⟩ | ht | ⟨T, rest, i, hhost, hd, ht⟩ <;> rw [ht] at hne ⊢
  · have hfire : (detStep Config.params s.inputsNow s.blk).fired = true := by
      by_contra hno
      exact hne (by simp [hno])
    rw [if_pos (by simp [hfire])]
    exact .inl ⟨hline, hfire⟩
  · exact absurd rfl hne
  · rcases execBlock_fired_cases i s.blk with hsame | ⟨hset, rfl⟩ | ⟨hclear, hi⟩
    · exact absurd hsame hne
    · rw [if_pos hset]
      exact .inr ⟨T, rest, hhost, hd⟩
    · rw [if_neg (by simp [hclear])]
      exact ⟨T, rest, i, hhost, hd, hi⟩

theorem execBlock_gcount_cases (i : Instr) (b : Block) :
    (execBlock i b).gcount = b.gcount ∨
      ((i = .cmdExecute ∨ i = .cmdPoll) ∧ (execBlock i b).gcount = b.gcount + 1) ∨
      (i = .cmdReset ∧ (execBlock i b).gcount = 0) := by
  cases execBlock_effect i b with
  | access _ _ _ he | resultOnly _ _ he | disarm _ _ he => exact .inl (by simp [he])
  | arm _ _ he => exact .inl (by simp [he, Block.armEffects_eq])
  | execute hi _ he => exact .inr (.inl ⟨.inl hi, by simp [he, Block.executeRelease_eq]⟩)
  | poll hi _ he => exact .inr (.inl ⟨.inr hi, by simp [he]⟩)
  | resetArmed hi _ he | resetDisarmed hi _ he => exact .inr (.inr ⟨hi, by simp [he, Block.resetRegisters]⟩)

/-- Settles O47: no cycle writes GCOUNT; EXECUTE and POLL count, RESET clears. -/
theorem gcountWriters : Obligations.GcountWriters := by
  intro s t h hne
  obtain ⟨T, rest, i, hhost, hd, ht⟩ := instr_of_step_changes Block.gcount (fun _ _ => rfl) h hne
  refine ⟨T, rest, i, hhost, hd, ?_⟩
  rw [ht] at hne ⊢
  exact (execBlock_gcount_cases i s.blk).resolve_left hne

/-- RESIDENT and LAT stay, or ARM copies them from CFG (R42, R43). -/
theorem execBlock_resident_lat (i : Instr) (b : Block) :
    ((execBlock i b).resident = b.resident ∧ (execBlock i b).lat = b.lat) ∨
      (i = .cmdArm ∧ (execBlock i b).resident = b.cfg.kind ∧
        (execBlock i b).lat = ⟨b.cfg.pin, b.cfg.edge, b.cfg.byte, b.cfg.uartdiv⟩) := by
  cases execBlock_effect i b with
  | access _ _ _ he | resultOnly _ _ he | disarm _ _ he | poll _ _ he | resetArmed _ _ he | resetDisarmed _ _ he =>
    exact .inl (by simp [he, Block.resetRegisters])
  | arm hi _ he => exact .inr ⟨hi, by simp [he, Block.armEffects_eq]⟩
  | execute _ _ he => exact .inl (by simp [he, Block.executeRelease_eq])

/-- Settles O48: no cycle writes RESIDENT or LAT, and no instruction but ARM. -/
theorem residentAndLatWriters : Obligations.ResidentAndLatWriters := by
  intro s t h hne
  have hne' : (t.blk.resident, t.blk.lat) ≠ (s.blk.resident, s.blk.lat) := by
    rwa [Ne, Prod.mk.injEq, not_and_or]
  obtain ⟨T, rest, i, hhost, hd, ht⟩ :=
    instr_of_step_changes (fun b => (b.resident, b.lat)) (fun _ _ => rfl) h hne'
  rw [ht] at hne ⊢
  rcases execBlock_resident_lat i s.blk with ⟨hres, hlat⟩ | ⟨rfl, hres, hlat⟩
  · exact absurd hne (by simp [hres, hlat])
  · exact ⟨⟨T, rest, hhost, hd⟩, hres, hlat⟩

/-- CFG is written by the writes to its registers alone, where the instruction is no command (R33). -/
theorem execBlock_cfg_of_not_writer {i : Instr} (hi : i.isCommand = false) (hl : i.isLatchedWrite = false)
    (ho : ∀ v, i ≠ .wrOutctl v) (b : Block) : (execBlock i b).cfg = b.cfg := by
  cases i
  case cmdArm | cmdDisarm | cmdExecute | cmdReset | cmdPoll | cmdIllegal => cases hi
  case wrPause | wrWidth | wrGap | wrCount | wrTrigkind | wrTrigpin | wrTrigbyte | wrUartdiv => cases hl
  case wrOutctl v => exact absurd rfl (ho v)
  all_goals rfl

/-- AUX is written by WR FLAGS alone, where the instruction is no command (R45). -/
theorem execBlock_aux_of_not_writer {i : Instr} (hi : i.isCommand = false) (hf : ∀ v, i ≠ .wrFlags v) (b : Block) :
    (execBlock i b).aux = b.aux := by
  cases i
  case cmdArm | cmdDisarm | cmdExecute | cmdReset | cmdPoll | cmdIllegal => cases hi
  case wrFlags v => exact absurd rfl (hf v)
  all_goals rfl

/-- Of the commands RESET alone writes CFG and AUX (R33, R45, R199). -/
theorem execBlock_cfg_aux_of_command {i : Instr} (hi : i.isCommand = true) (hr : i ≠ .cmdReset) (b : Block) :
    (execBlock i b).cfg = b.cfg ∧ (execBlock i b).aux = b.aux := by
  cases execBlock_effect i b with
  | access _ _ hi' _ => rw [hi] at hi'; cases hi'
  | resultOnly _ _ he | disarm _ _ he | poll _ _ he => simp [he]
  | arm _ _ he => simp [he, Block.armEffects_eq]
  | execute _ _ he => simp [he, Block.executeRelease_eq]
  | resetArmed hi' _ _ | resetDisarmed hi' _ _ => exact absurd hi' hr

theorem execBlock_cfg_writers {i : Instr} {b : Block} (h : (execBlock i b).cfg ≠ b.cfg) :
    i = .cmdReset ∨ i.isLatchedWrite = true ∨ ∃ v, i = .wrOutctl v := by
  by_contra hno
  simp only [not_or, not_exists, Bool.not_eq_true] at hno
  obtain ⟨hr, hl, ho⟩ := hno
  cases hi : i.isCommand
  · exact h (execBlock_cfg_of_not_writer hi hl ho b)
  · exact h (execBlock_cfg_aux_of_command hi hr b).1

theorem execBlock_aux_writers {i : Instr} {b : Block} (h : (execBlock i b).aux ≠ b.aux) :
    i = .cmdReset ∨ ∃ v, i = .wrFlags v := by
  by_contra hno
  simp only [not_or, not_exists] at hno
  obtain ⟨hr, hf⟩ := hno
  cases hi : i.isCommand
  · exact h (execBlock_aux_of_not_writer hi hf b)
  · exact h (execBlock_cfg_aux_of_command hi hr b).2

/-- An instruction leaves RELEASE or clears it (R37). -/
theorem execBlock_release {i : Instr} {b : Block} (h : (execBlock i b).release = true) : b.release = true := by
  cases execBlock_effect i b with
  | access _ _ _ he | resultOnly _ _ he | resetDisarmed _ _ he => rw [he] at h; exact h
  | arm _ _ he => simp [he, Block.armEffects_eq] at h
  | disarm _ _ he | execute _ _ he | poll _ _ he | resetArmed _ _ he => rw [he] at h; cases h

/-- An instruction leaves Q or empties it, and ARM fills it from CFG (R38, R161). -/
theorem execBlock_q (i : Instr) (b : Block) :
    (execBlock i b).q = b.q ∨ (execBlock i b).q = [] ∨
      (i = .cmdArm ∧ (execBlock i b).q = [b.cfg.pause, b.cfg.count - 1, b.cfg.width, b.cfg.gap]) := by
  cases execBlock_effect i b with
  | access _ _ _ he | resultOnly _ _ he | resetDisarmed _ _ he => exact .inl (by simp [he, Block.resetRegisters])
  | arm hi _ he => exact .inr (.inr ⟨hi, by simp [he, Block.armEffects_eq]⟩)
  | disarm _ _ he | execute _ _ he | poll _ _ he | resetArmed _ _ he =>
    exact .inr (.inl (by simp [he, Block.resetRegisters]))

/-- Settles O49: of the instructions by their effects, of a cycle by the generator's step alone, which takes Q where it
consumes RELEASE. -/
theorem configAuxReleaseQueueWriters : Obligations.ConfigAuxReleaseQueueWriters := by
  refine ⟨fun i s t h => ?_, fun P inp b => ⟨rfl, rfl, fun h => ?_, ?_⟩⟩
  · rw [exec_blk h]
    exact ⟨execBlock_cfg_writers, execBlock_aux_writers, execBlock_release, execBlock_q i s.blk⟩
  · rw [hwStep_release, Bool.or_eq_true, Bool.and_eq_true] at h
    exact h.imp_left And.left
  · rw [hwStep_q, pgStep_q, startSequence_q]

/-! ### The outputs (R48) -/

/-- The pulls of a block on which no GPIO variant is resident (R137). -/
theorem pullO_of_not_gpio {b : Block} (h : b.resident ≠ .gpio) (p : Nat) : pullO b p = .none :=
  if_neg fun hp => h hp.1

theorem pullO_pin {b : Block} (h : b.resident = .gpio) :
    pullO b b.lat.pin.toNat = if b.lat.edge = .rising then .down else .up := by
  rw [pullO, if_pos ⟨h, rfl⟩]
  cases b.lat.edge <;> rfl

theorem pullO_eq (b : Block) (p : Nat) : pullO b p =
    if b.resident = .gpio ∧ p = b.lat.pin.toNat then (if b.lat.edge = .rising then .down else .up) else .none := by
  split
  · next h =>
    obtain ⟨hres, rfl⟩ := h
    exact pullO_pin hres
  · next h => exact if_neg h

/-- The pulls are a function of RESIDENT and LAT (R137). -/
theorem pullO_congr {b b' : Block} (hres : b'.resident = b.resident) (hlat : b'.lat = b.lat) : pullO b' = pullO b := by
  funext p
  rw [pullO_eq, pullO_eq, hres, hlat]

theorem execBlock_pullO {i : Instr} (hi : i ≠ .cmdArm) (b : Block) : pullO (execBlock i b) = pullO b := by
  rcases execBlock_resident_lat i b with ⟨hres, hlat⟩ | ⟨harm, _⟩
  · exact pullO_congr hres hlat
  · exact absurd harm hi

theorem hwStep_pullO (P : Params) (inp : Inputs) (b : Block) : pullO (hwStep P inp b) = pullO b :=
  pullO_congr rfl rfl

/-- Settles O23: the pulls are a function of RESIDENT and LAT, which ARM alone writes. -/
theorem pullFollowsResidentPin : Obligations.PullFollowsResidentPin := by
  refine ⟨fun b p => ?_, fun b h => pullO_pin h, fun i s t p hi h => ?_, fun P inp b p => ?_, fun s t p h hne => ?_⟩
  · rw [pullO_eq]
    split
    · cases b.lat.edge <;> simp_all
    · simp_all
  · rw [exec_blk h, execBlock_pullO hi]
  · rw [hwStep_pullO]
  · obtain ⟨T, rest, i, hhost, hd, ht⟩ :=
      instr_of_step_changes (fun b => pullO b p) (fun _ _ => by rw [hwStep_pullO]) h hne
    by_cases hi : i = .cmdArm
    · exact ⟨T, rest, hhost, hi ▸ hd⟩
    · exact absurd (by rw [ht, execBlock_pullO hi]) hne

theorem outputs_of_active {b : Block} (h : b.pg.st = .high) (P : Params) :
    (outputs P b).out = (if b.cfg.outEn then .level true else .z) ∧
      (outputs P b).outn = (if b.cfg.invEn then .level false else .z) := by
  simp [outputs, outO, outnO, Block.active, h]

theorem outputs_of_inactive {b : Block} (h : b.pg.st ≠ .high) (P : Params) :
    (outputs P b).out = (if b.cfg.outEn then .level false else .z) ∧
      (outputs P b).outn = (if b.cfg.invEn then .level true else .z) := by
  simp [outputs, outO, outnO, Block.active, h]

/-- Settles O22: the mux by whether the generator is HIGH, the pulls pin by pin. -/
theorem outputMux : Obligations.OutputMux := by
  intro P b
  refine ⟨fun h => outputs_of_active h P, fun h => outputs_of_inactive h P, fun hout hinv =>
    ⟨b.active, if_pos hout, if_pos hinv⟩, rfl, rfl, ?_, fun p hp => ?_⟩
  · rw [outputs, List.length_map, List.length_range]
  · rw [← pullO_eq, outputs, List.getElem?_map, List.getElem?_range hp, Option.map_some]

/-! ### The untouched block (R292) -/

theorem Block.reset_untouched (P : Params) : (Block.reset P).Untouched := by
  constructor <;> rfl

/-- A cycle leaves an untouched block untouched, whatever the inputs: no detector runs and the generator is stopped. -/
theorem hwStep_untouched {b : Block} (h : b.Untouched) (P : Params) (inp : Inputs) : (hwStep P inp b).Untouched where
  disarmed := h.disarmed
  notFired := by simp [detStep_of_off h.gpioOff h.uartOff, h.notFired]
  nothingResident := h.nothingResident
  stopped := by simp [pgStep, h.stopped]
  gpioOff := hwStep_gd_off.mpr h.gpioOff
  uartOff := hwStep_ud_off.mpr h.uartOff
  outEnabled := h.outEnabled
  invDisabled := h.invDisabled

/-- Where the instruction is no command, WR OUTCTL alone writes the output enables (R237). -/
theorem execBlock_enables {i : Instr} (hi : i.isCommand = false) (ho : ∀ v, i ≠ .wrOutctl v) (b : Block) :
    (execBlock i b).cfg.outEn = b.cfg.outEn ∧ (execBlock i b).cfg.invEn = b.cfg.invEn := by
  cases i
  case cmdArm | cmdDisarm | cmdExecute | cmdReset | cmdPoll | cmdIllegal => cases hi
  case wrOutctl v => exact absurd rfl (ho v)
  all_goals exact ⟨rfl, rfl⟩

theorem execBlock_untouched {i : Instr} {b : Block} (h : b.Untouched) (harm : i ≠ .cmdArm) (hexec : i ≠ .cmdExecute)
    (ho : ∀ v, i ≠ .wrOutctl v) : (execBlock i b).Untouched := by
  have hno : b.armed ≠ true := by simp [h.disarmed]
  cases execBlock_effect i b with
  | access c a hi he =>
    obtain ⟨hout, hinv⟩ := execBlock_enables hi ho b
    rw [he] at hout hinv ⊢
    exact { h with outEnabled := hout.trans h.outEnabled, invDisabled := hinv.trans h.invDisabled }
  | resultOnly _ _ he => exact he ▸ { h with }
  | arm hi => exact absurd hi harm
  | execute hi => exact absurd hi hexec
  | disarm _ ha | poll _ ha | resetArmed _ ha => exact absurd ha hno
  | resetDisarmed _ _ he => exact he ▸ { h with notFired := rfl, outEnabled := rfl, invDisabled := rfl }

/-- An untouched block drives the normal output low, nothing else and no pull (R292). -/
theorem outputs_of_untouched {b : Block} (h : b.Untouched) (P : Params) :
    outputs P b = ⟨.level false, .z, false, false, List.replicate P.numPins .none⟩ := by
  have hpull : pullO b = fun _ => .none := funext (pullO_of_not_gpio (by simp [h.nothingResident]))
  simp [outputs, outO, outnO, armedO, firedO, Block.active, hpull, h.outEnabled, h.invDisabled, h.stopped, h.disarmed,
    h.notFired, List.map_const']

/-- Settles O12: a cycle, a BusError and every instruction but the three keep the block untouched. -/
theorem outputsIdleUntilArmed : Obligations.OutputsIdleUntilArmed := by
  refine ⟨Block.reset_untouched _, fun s t hs h hline => ?_, fun P b h => outputs_of_untouched h P⟩
  rcases step_blk h with ⟨_, ht⟩ | ht | ⟨T, rest, i, hhost, hd, ht⟩ <;> rw [ht]
  · exact hwStep_untouched hs ..
  · exact hs
  · obtain ⟨harm, hexec, ho⟩ := hline T rest i hhost hd
    exact execBlock_untouched hs harm hexec ho

/-! ### RESULT (R46, R260, R261) -/

/-- A variant is not available exactly when its parameter says so; None always is (R9, R190). -/
theorem Params.available_eq_false {P : Params} {k : Variant} : Params.available P k = false ↔
    (k = .gpio ∧ P.availableGpio = false) ∨ (k = .uart ∧ P.availableUart = false) := by
  cases k <;> simp [Params.available]

theorem execBlock_result_of_not_command {i : Instr} (hi : i.isCommand = false) (b : Block) :
    (execBlock i b).result = b.result := by
  cases i
  case cmdArm | cmdDisarm | cmdExecute | cmdReset | cmdPoll | cmdIllegal => cases hi
  all_goals rfl

theorem executeCommand_result (P : Params) (b : Block) :
    (executeCommand P b).result = if b.armed = true then .ok else .errState := by
  rcases executeCommand_cases P b with ⟨ha, h⟩ | ⟨ha, h⟩ <;> simp [h, ha]

/-- DISARM, RESET and POLL always succeed (R194, R199, R202). -/
theorem execBlock_result_ok {i : Instr} (hi : i = .cmdDisarm ∨ i = .cmdReset ∨ i = .cmdPoll) (b : Block) :
    (execBlock i b).result = .ok := by
  rcases hi with rfl | rfl | rfl <;> rfl

/-- Settles O43: each command by its cases; a BusError and a cycle have no write of RESULT. -/
theorem resultCodes : Obligations.ResultCodes := by
  refine ⟨fun s t h => ?_, fun s t h => ?_, fun i s t hi h => ?_, fun data s t h => ?_, fun i s t hi h => ?_,
    fun _ _ _ => rfl, fun s bits T rest cause hhost hd => ?_⟩
  · rw [exec_blk h, execBlock, armCommand_result, armCheck]
    simp only [Bool.not_eq_true', Params.available_eq_false]
  · rw [exec_blk h, execBlock, executeCommand_result]
  · rw [exec_blk h, execBlock_result_ok hi]
  · rw [exec_blk h]
    rfl
  · rw [exec_blk h, execBlock_result_of_not_command hi]
  · exact ⟨_, step_of_error hhost hd, rfl⟩

/-! ### The STATUS and FLAGS words (R50, R59) -/

/-- A field put at bit k of a word (R50, R59): its bits from k on, 0 elsewhere. -/
theorem field_getLsbD {n : Nat} (x : BitVec n) (k i : Nat) (h : k + n ≤ 32) :
    (x.setWidth 32 <<< k).getLsbD i = (decide (k ≤ i) && x.getLsbD (i - k)) := by
  rw [BitVec.getLsbD_shiftLeft, BitVec.getLsbD_setWidth]
  by_cases hk : k ≤ i
  · by_cases hn : i - k < n
    · simp [hk, show i < 32 by omega, show ¬i < k by omega, show i - k < 32 by omega]
    · simp [BitVec.getLsbD_of_ge x (i - k) (by omega)]
  · simp [hk, show i < k by omega]

theorem bit_getLsbD (b : Bool) (k i : Nat) (h : k < 32) : (bitWord b <<< k).getLsbD i = (decide (i = k) && b) := by
  rw [bitWord, field_getLsbD _ _ _ h, BitVec.getLsbD_ofBool, ← Bool.and_assoc, ← Bool.decide_and]
  congr 2
  simp
  omega

/-- The bits of the FLAGS word (R59). -/
theorem flagsWord_getLsbD (b : Block) (i : Nat) :
    (flagsWord b).getLsbD i = (b.aux.getLsbD i || (decide (i = 4) && b.armed)) := by
  have hbit0 := bit_getLsbD (b.aux.getLsbD 0) 0 i (by decide)
  rw [BitVec.shiftLeft_zero] at hbit0
  simp (disch := decide) only [flagsWord, BitVec.getLsbD_or, bit_getLsbD, hbit0]
  match i with
  | 0 | 1 | 2 | 3 => simp
  | i + 4 => simp

/-- The bits of the STATUS word (R50). -/
theorem statusWord_getLsbD (b : Block) (i : Nat) : (statusWord b).getLsbD i =
    ((ResultCode.code b.result).getLsbD i || (decide (i = 4) && b.armed) || (decide (i = 5) && b.fired) ||
      (decide (8 ≤ i) && (BitVec.ofNat 3 b.q.length).getLsbD (i - 8)) ||
      (decide (12 ≤ i) && (Variant.code b.resident).getLsbD (i - 12))) := by
  have hresult := field_getLsbD (ResultCode.code b.result) 0 i (by decide)
  simp only [BitVec.shiftLeft_zero, Nat.zero_le, decide_true, Bool.true_and, Nat.sub_zero] at hresult
  simp (disch := decide) only [statusWord, BitVec.getLsbD_or, bit_getLsbD, field_getLsbD, hresult]

/-- Settles O55: the fields are read off the bits of the word. -/
theorem flagsFields : Obligations.FlagsFields := by
  intro s
  refine ⟨flagsWord s.blk, rfl, ?_, ?_, ?_⟩
  · refine BitVec.eq_of_getLsbD_eq fun i hi => ?_
    simp [flagsWord_getLsbD, hi, show i ≠ 4 by omega]
  · rw [flagsWord_getLsbD]
    simp
  · refine BitVec.eq_of_getLsbD_eq fun i hi => ?_
    have haux : s.blk.aux.getLsbD (5 + i) = false := BitVec.getLsbD_of_ge _ _ (by omega)
    simp [flagsWord_getLsbD, haux, show 5 + i ≠ 4 by omega]

theorem statusWord_result (b : Block) : (statusWord b).extractLsb' 0 3 = ResultCode.code b.result := by
  refine BitVec.eq_of_getLsbD_eq fun i hi => ?_
  simp [statusWord_getLsbD, hi, show i ≠ 4 by omega, show i ≠ 5 by omega, show ¬8 ≤ i by omega, show ¬12 ≤ i by omega]

theorem statusWord_qlevel (b : Block) : (statusWord b).extractLsb' 8 3 = BitVec.ofNat 3 b.q.length := by
  refine BitVec.eq_of_getLsbD_eq fun i hi => ?_
  have hresult : (ResultCode.code b.result).getLsbD (8 + i) = false := BitVec.getLsbD_of_ge _ _ (by omega)
  simp [statusWord_getLsbD, hi, hresult, show 8 + i ≠ 4 by omega, show 8 + i ≠ 5 by omega, show ¬12 ≤ 8 + i by omega]

theorem statusWord_resident (b : Block) : (statusWord b).extractLsb' 12 2 = Variant.code b.resident := by
  refine BitVec.eq_of_getLsbD_eq fun i hi => ?_
  have hresult : (ResultCode.code b.result).getLsbD (12 + i) = false := BitVec.getLsbD_of_ge _ _ (by omega)
  have hq : (BitVec.ofNat 3 b.q.length).getLsbD (12 + i - 8) = false := BitVec.getLsbD_of_ge _ _ (by omega)
  simp [statusWord_getLsbD, hi, hresult, hq, show 12 + i ≠ 4 by omega, show 12 + i ≠ 5 by omega]

/-- The bits of STATUS that belong to no field are 0 (R50). -/
theorem statusWord_reserved (b : Block) {i : Nat} (h : i = 3 ∨ i = 6 ∨ i = 7 ∨ i = 11 ∨ 14 ≤ i) :
    (statusWord b).getLsbD i = false := by
  have hresult : (ResultCode.code b.result).getLsbD i = false := BitVec.getLsbD_of_ge _ _ (by omega)
  have hq : 8 ≤ i → (BitVec.ofNat 3 b.q.length).getLsbD (i - 8) = false :=
    fun _ => BitVec.getLsbD_of_ge _ _ (by omega)
  have hresident : 12 ≤ i → (Variant.code b.resident).getLsbD (i - 12) = false :=
    fun _ => BitVec.getLsbD_of_ge _ _ (by omega)
  rw [statusWord_getLsbD, hresult]
  simpa [show i ≠ 4 by omega, show i ≠ 5 by omega] using ⟨hq, hresident⟩

/-- Settles O54: the fields are read off the bits of the word. -/
theorem statusFields : Obligations.StatusFields := by
  intro s hq
  refine ⟨statusWord s.blk, rfl, ?_, statusWord_reserved _ (by decide), ?_, ?_, ?_, ?_,
    statusWord_reserved _ (by decide), ?_, ?_⟩
  · rw [statusWord_result]
    cases s.blk.result <;> rfl
  · rw [statusWord_getLsbD]
    simp
  · rw [statusWord_getLsbD]
    simp
  · refine BitVec.eq_of_getLsbD_eq fun i hi => ?_
    simp [statusWord_reserved s.blk (i := 6 + i) (by omega)]
  · rw [statusWord_qlevel, BitVec.toNat_ofNat, Nat.mod_eq_of_lt (by omega)]
  · rw [statusWord_resident]
    cases s.blk.resident <;> rfl
  · refine BitVec.eq_of_getLsbD_eq fun i hi => ?_
    simp [statusWord_reserved s.blk (i := 14 + i) (by omega)]

end Sys2Proof.Machine

/-!
PROOF. The register map, the fields of its words, and the obligations of the memory chapter (R80 to R93): BusErrors,
writes of the trigger configuration, reads, and a read after a write; with them that a fire and a consume never meet.
-/

namespace Sys2Proof

/-! ### Which transactions raise BusError (R82 to R85, R262) -/

/-- The registers lie one word apart, in the order of the map (R36). -/
theorem Reg.offset_all (k : Nat) (h : k < Reg.all.length) : (Reg.offset Reg.all[k]).toNat = 4 * k := by
  revert k
  decide

/-- The mapped offsets are the multiples of 4 from 0x00 to 0x30 (R36, R83, R84). -/
theorem Reg.exists_offset_eq {a : Offset} :
    (∃ r, Reg.offset r = a) ↔ a.toNat % 4 = 0 ∧ a.toNat ≤ 0x30 := by
  constructor
  · rintro ⟨r, rfl⟩
    cases r <;> decide
  · rintro ⟨haligned, hle⟩
    have hk : a.toNat / 4 < Reg.all.length := show a.toNat / 4 < 13 by omega
    refine ⟨Reg.all[a.toNat / 4], BitVec.eq_of_toNat_eq ?_⟩
    rw [Reg.offset_all]
    omega

/-- Only STATUS and GCOUNT refuse a write (R85). -/
theorem decodeWrite_error {r : Reg} {data : Word} :
    (∃ cause, decodeWrite r data = .error cause) ↔ Reg.offset r = 0x04 ∨ Reg.offset r = 0x24 := by
  cases r <;> simp [decodeWrite, Reg.offset]

/-- The causes of BusError of a 32-bit access, read off ADDR and WE (R83 to R85). -/
theorem decode_error {T : Trans} : (∃ cause, decode T = .error cause) ↔
    ¬((Trans.addr T).toNat % 4 = 0 ∧ (Trans.addr T).toNat ≤ 0x30) ∨
      (Trans.we T = true ∧ (Trans.addr T = 0x04 ∨ Trans.addr T = 0x24)) := by
  rw [← Reg.exists_offset_eq, decode]
  cases hr : Reg.ofOffset (Trans.addr T) with
  | none =>
    have hunmapped : ¬∃ r, Reg.offset r = Trans.addr T := fun ⟨r, h⟩ => Reg.offset_ne_of_ofOffset hr r h
    simp [hunmapped]
  | some r =>
    have haddr : Reg.offset r = Trans.addr T := Reg.offset_of_ofOffset hr
    have hmapped : ∃ r, Reg.offset r = Trans.addr T := ⟨r, haddr⟩
    cases hw : Trans.we T
    · simp [hmapped]
    · simp [hmapped, decodeWrite_error, haddr]

/-- The causes of BusError (R262). -/
theorem decodeAccess_error {bits : Nat} {T : Trans} : (∃ cause, decodeAccess bits T = .error cause) ↔
    bits ≠ 32 ∨ ¬((Trans.addr T).toNat % 4 = 0 ∧ (Trans.addr T).toNat ≤ 0x30) ∨
      (Trans.we T = true ∧ (Trans.addr T = 0x04 ∨ Trans.addr T = 0x24)) := by
  rw [← decode_error]
  by_cases hb : bits = 32 <;> simp [decodeAccess, hb]

end Sys2Proof

namespace Sys2Proof.Machine

/-- Settles O6: the causes are those of the decoder, and what decodes is answered with ERR = 0. -/
theorem busErrorChangesNothing : Obligations.BusErrorChangesNothing := by
  intro s bits T rest hhost
  split
  · next hbus =>
    obtain ⟨cause, hd⟩ := decodeAccess_error.mpr hbus
    exact step_of_error hhost hd
  · next hbus =>
    cases hd : decodeAccess bits T with
    | error cause => exact absurd (decodeAccess_error.mp ⟨cause, hd⟩) hbus
    | ok i =>
      rw [step_of_ok hhost hd, exec_eq]
      exact ⟨_, execRdata i s.blk, rfl, rfl, rfl, rfl, rfl⟩

/-- Settles O26: a fire comes from a running detector, which runs only while RELEASE is 0. -/
theorem fireAndConsumeNeverMeet : Obligations.FireAndConsumeNeverMeet := by
  intro P inp b hinv hranges
  refine ⟨hinv.not_both_running, fun hfired => ?_⟩
  obtain ⟨_, hrelease, _⟩ := hranges.detecting ((detStep_fired_done hfired).imp And.left And.left)
  rw [consumes, hrelease, Bool.and_false]

/-! ### The fields a write takes from DATA (R229 to R243) -/

/-- The low bits of a word are its remainder. -/
theorem extractLsb'_zero_toNat (v : Word) (n : Nat) : (v.extractLsb' 0 n).toNat = v.toNat % 2 ^ n := by
  rw [BitVec.extractLsb'_toNat, Nat.shiftRight_zero]

/-- KIND as a write takes it, by the value of DATA's two low bits (R86, R229). -/
theorem writtenKind_eq (old : Variant) (v : Word) : writtenKind old v =
    if v.toNat % 4 = 0 then .none else if v.toNat % 4 = 1 then .gpio else if v.toNat % 4 = 2 then .uart else old := by
  have hcode (c : BitVec 2) : v.extractLsb' 0 2 = c ↔ v.toNat % 4 = c.toNat := by
    rw [← BitVec.toNat_inj, extractLsb'_zero_toNat]
    rfl
  simp only [writtenKind, Variant.ofCode, hcode, BitVec.reduceToNat]
  split_ifs <;> rfl

theorem writtenPin_toNat (v : Word) : (writtenPin v).toNat = v.toNat % 256 := extractLsb'_zero_toNat v 8

theorem writtenByte_toNat (v : Word) : (writtenByte v).toNat = v.toNat % 256 := extractLsb'_zero_toNat v 8

theorem writtenAux_toNat (v : Word) : (writtenAux v).toNat = v.toNat % 16 := extractLsb'_zero_toNat v 4

theorem Edge.ofCode_eq_falling {c : Bool} : Edge.ofCode c = .falling ↔ c = true := by
  cases c <;> decide

theorem writtenEdge_eq_falling {v : Word} : writtenEdge v = .falling ↔ v.toNat / 256 % 2 = 1 := by
  rw [writtenEdge, Edge.ofCode_eq_falling, BitVec.getLsbD, Nat.testBit_eq_decide_div_mod_eq, decide_eq_true_iff]

theorem writtenOutEn_eq_true {v : Word} : writtenOutEn v = true ↔ v.toNat % 2 = 1 := by
  rw [writtenOutEn, BitVec.getLsbD, Nat.testBit_eq_decide_div_mod_eq, decide_eq_true_iff, pow_zero, Nat.div_one]

theorem writtenInvEn_eq_true {v : Word} : writtenInvEn v = true ↔ v.toNat / 2 % 2 = 1 := by
  rw [writtenInvEn, BitVec.getLsbD, Nat.testBit_eq_decide_div_mod_eq, decide_eq_true_iff, pow_one]

/-- Settles O51: each write stores its fields, which are read off the value of DATA. -/
theorem triggerWrites : Obligations.TriggerWrites := by
  intro v s
  refine ⟨⟨writtenKind s.blk.cfg.kind v, exec_eq _ s, ?_⟩,
    ⟨writtenPin v, writtenEdge v, exec_eq _ s, writtenPin_toNat v, writtenEdge_eq_falling⟩,
    ⟨writtenByte v, exec_eq _ s, writtenByte_toNat v⟩,
    ⟨writtenDiv s.blk.cfg.uartdiv v, exec_eq _ s, fun hv => if_neg hv, fun hv => if_pos hv⟩⟩
  rw [writtenKind_eq]
  split_ands <;> intro hkind <;> simp [hkind]

/-! ### The words a read puts together (R230 to R238) -/

theorem trigkindWord_toNat (kind : Variant) : (trigkindWord kind).toNat = (Variant.code kind).toNat := by
  cases kind <;> rfl

theorem trigbyteWord_toNat (byte : Byte) : (trigbyteWord byte).toNat = byte.toNat :=
  BitVec.toNat_setWidth_of_le (by decide)

/-- EDGE stands above PIN (R56, R232). -/
theorem trigpinWord_toNat (pin : Byte) (edge : Edge) :
    (trigpinWord pin edge).toNat = pin.toNat + if edge = .falling then 256 else 0 := by
  have hpin : (pin.setWidth 32).toNat = pin.toNat := BitVec.toNat_setWidth_of_le (by decide)
  cases edge
  · change 0 ||| (pin.setWidth 32).toNat = _
    simp [hpin]
  · change 1 <<< 8 ||| (pin.setWidth 32).toNat = _
    rw [hpin, ← Nat.shiftLeft_add_eq_or_of_lt pin.isLt, Nat.add_comm]
    rfl

/-- INV_EN stands above OUT_EN (R60, R238). -/
theorem outctlWord_toNat (outEn invEn : Bool) :
    (outctlWord outEn invEn).toNat = (if outEn = true then 1 else 0) + (if invEn = true then 2 else 0) := by
  cases outEn <;> cases invEn <;> rfl

/-- Settles O53: a read answers with its word, whose value is that of the register's fields. -/
theorem readsReturnTheirRegister : Obligations.ReadsReturnTheirRegister := by
  intro s
  refine ⟨exec_eq _ s, exec_eq _ s, exec_eq _ s, exec_eq _ s, exec_eq _ s, exec_eq _ s, exec_eq _ s,
    ⟨_, exec_eq _ s, (trigkindWord_toNat _).trans ?_⟩, ⟨_, exec_eq _ s, trigpinWord_toNat _ _⟩,
    ⟨_, exec_eq _ s, trigbyteWord_toNat _⟩, ⟨_, exec_eq _ s, outctlWord_toNat _ _⟩⟩
  cases s.blk.cfg.kind <;> rfl

/-! ### A read after a write (R306) -/

/-- A mask of the n low bits takes the remainder. -/
theorem and_mask_toNat (v : Word) {n : Nat} {m : Word} (hm : m.toNat = 2 ^ n - 1) :
    (v &&& m).toNat = v.toNat % 2 ^ n := by
  rw [BitVec.toNat_and, hm, Nat.and_two_pow_sub_one_eq_mod]

/-- RD TRIGPIN after WR TRIGPIN (R231, R232). -/
theorem trigpinWord_written (v : Word) : trigpinWord (writtenPin v) (writtenEdge v) = v &&& 0x1FF := by
  apply BitVec.eq_of_toNat_eq
  rw [and_mask_toNat v (n := 9) rfl]
  simp only [trigpinWord_toNat, writtenPin_toNat, writtenEdge_eq_falling]
  split <;> omega

/-- RD TRIGBYTE after WR TRIGBYTE (R233, R234). -/
theorem trigbyteWord_written (v : Word) : trigbyteWord (writtenByte v) = v &&& 0xFF := by
  apply BitVec.eq_of_toNat_eq
  rw [trigbyteWord_toNat, writtenByte_toNat, and_mask_toNat v (n := 8) rfl]
  rfl

/-- RD OUTCTL after WR OUTCTL (R237, R238). -/
theorem outctlWord_written (v : Word) : outctlWord (writtenOutEn v) (writtenInvEn v) = v &&& 3 := by
  apply BitVec.eq_of_toNat_eq
  rw [and_mask_toNat v (n := 2) rfl]
  simp only [outctlWord_toNat, writtenOutEn_eq_true, writtenInvEn_eq_true]
  split <;> split <;> omega

/-- AUX at the low bits, ARMED at bit 4 (R59). -/
theorem flagsWord_eq (b : Block) :
    flagsWord b = b.aux.setWidth 32 ||| (if b.armed = true then 0x10 else 0) := by
  have harmed : (if b.armed = true then 0x10 else 0 : Word) = bitWord b.armed <<< 4 := by cases b.armed <;> rfl
  refine BitVec.eq_of_getLsbD_eq fun i hi => ?_
  rw [flagsWord_getLsbD, harmed, BitVec.getLsbD_or, bit_getLsbD _ _ _ (by decide), BitVec.getLsbD_setWidth,
    decide_eq_true hi, Bool.true_and]

theorem writtenAux_setWidth (v : Word) : (writtenAux v).setWidth 32 = v &&& 0xF := by
  apply BitVec.eq_of_toNat_eq
  rw [BitVec.toNat_setWidth_of_le (by decide), writtenAux_toNat, and_mask_toNat v (n := 4) rfl]
  rfl

/-- The reserved KIND is 3 in DATA's two low bits (R55). -/
theorem and_three_eq_three {v : Word} : v &&& 3 = 3 ↔ v.toNat % 4 = 3 := by
  rw [← BitVec.toNat_inj, and_mask_toNat v (n := 2) rfl]
  rfl

/-- RD TRIGKIND after a write that is taken (R229, R230). -/
theorem trigkindWord_written {v : Word} (h : v &&& 3 ≠ 3) (old : Variant) :
    trigkindWord (writtenKind old v) = v &&& 3 := by
  rw [Ne, and_three_eq_three] at h
  apply BitVec.eq_of_toNat_eq
  rw [trigkindWord_toNat, writtenKind_eq, and_mask_toNat v (n := 2) rfl]
  obtain hkind | hkind | hkind : v.toNat % 4 = 0 ∨ v.toNat % 4 = 1 ∨ v.toNat % 4 = 2 := by omega
  all_goals simp [hkind, Variant.code]

/-- A reserved KIND is not taken (R86). -/
theorem writtenKind_reserved {v : Word} (h : v &&& 3 = 3) (old : Variant) : writtenKind old v = old := by
  rw [writtenKind_eq, and_three_eq_three.mp h]
  rfl

/-- The RESULT an ARM gives, by number, in the order of its checks (R190, R260). -/
theorem armCheck_code_toNat (P : Params) (b : Block) : (ResultCode.code (armCheck P b)).toNat =
    if b.armed = true then 1
    else if b.cfg.kind = .gpio ∧ P.numPins ≤ b.cfg.pin.toNat then 3
    else if (b.cfg.kind = .gpio ∧ P.availableGpio = false) ∨ (b.cfg.kind = .uart ∧ P.availableUart = false) then 2
    else 0 := by
  simp only [armCheck, Bool.not_eq_true', Params.available_eq_false]
  repeat' split
  all_goals rfl

/-- A second instruction at the same boundary reads the block as the first leaves it (R306). -/
theorem exec_exec_rdata {i j : Instr} {s : State} {v : Word} (h : execRdata j (execBlock i s.blk) = v) :
    ∃ t u, exec i s = .next t ∧ exec j t = .next u ∧ u.resp = some ⟨v, false⟩ :=
  ⟨_, _, exec_eq i s, exec_eq j _, by rw [← h]; rfl⟩

/-- Settles O56: each read puts together again what the write before it took from DATA. -/
theorem readAfterWrite : Obligations.ReadAfterWrite := by
  refine ⟨fun v s => exec_exec_rdata rfl, fun v s => exec_exec_rdata rfl, fun v s => exec_exec_rdata rfl,
    fun v s => exec_exec_rdata rfl, fun v s => exec_exec_rdata rfl,
    fun v s => exec_exec_rdata (trigpinWord_written v), fun v s => exec_exec_rdata (trigbyteWord_written v),
    fun v s => exec_exec_rdata (outctlWord_written v), fun v s => exec_exec_rdata ?_,
    fun v s hv => exec_exec_rdata (trigkindWord_written hv _), fun v s r hv hr => ?_, fun s => ?_⟩
  · rw [execRdata, flagsWord_eq]
    exact congrArg (· ||| _) (writtenAux_setWidth v)
  · rw [exec_eq_next.mp hr]
    exact exec_exec_rdata (congrArg trigkindWord (writtenKind_reserved hv _))
  · obtain ⟨t, u, ht, hu, hresp⟩ := exec_exec_rdata (i := .cmdArm) (j := .rdStatus) (s := s) rfl
    refine ⟨t, u, _, ht, hu, hresp, ?_⟩
    rw [execRdata, statusWord_result, execBlock, armCommand_result, armCheck_code_toNat]

end Sys2Proof.Machine

/-!
PROOF. Encoding and decoding (R100 to R113): the decoder on a transaction put together from its fields, the rows of the
opcode map, illegal command words, and what the API calls return.
-/

namespace Sys2Proof

/-! ### The decoder, field by field (R101, R104, R105) -/

/-- A read of a mapped offset decodes to its register's read, whatever DATA is (R100). -/
theorem decode_mkTrans_read (r : Reg) (data : Word) :
    decode (mkTrans false (Reg.offset r) data) = .ok (decodeRead r) := by
  simp [decode]

theorem decode_mkTrans_write (r : Reg) (data : Word) :
    decode (mkTrans true (Reg.offset r) data) = decodeWrite r data := by
  simp [decode]

/-- What decodes is a read or a write of the register that ADDR names. -/
theorem decode_eq_ok {T : Trans} {i : Instr} : decode T = .ok i ↔ ∃ r, Reg.offset r = Trans.addr T ∧
    ((Trans.we T = false ∧ decodeRead r = i) ∨ (Trans.we T = true ∧ decodeWrite r (Trans.data T) = .ok i)) := by
  constructor
  · intro h
    rw [decode] at h
    cases hr : Reg.ofOffset (Trans.addr T) with
    | none => simp [hr] at h
    | some r =>
      refine ⟨r, Reg.offset_of_ofOffset hr, ?_⟩
      cases hw : Trans.we T <;> simpa [hr, hw] using h
  · rintro ⟨r, haddr, ⟨hwe, hi⟩ | ⟨hwe, hi⟩⟩
    · simp [decode, ← haddr, hwe, hi]
    · simp [decode, ← haddr, hwe, hi]

/-- A DATA that is none of the five command words decodes to ILLEGAL (R105). -/
theorem decodeCommand_of_not_isCommandWord {data : Word} (h : isCommandWord data = false) :
    decodeCommand data = .cmdIllegal data := by
  simp only [isCommandWord, Bool.or_eq_false_iff, beq_eq_false_iff_ne] at h
  obtain ⟨⟨⟨⟨h1, h2⟩, h3⟩, h4⟩, h5⟩ := h
  simp only [decodeCommand, if_neg h1, if_neg h2, if_neg h3, if_neg h4, if_neg h5]

/-- The five command words have OPC 1 to 5 and DATA[31:4] = 0 (R104). -/
theorem isCommandWord_fields {data : Word} (h : isCommandWord data = true) :
    data.extractLsb' 0 4 ≠ 0 ∧ (data.extractLsb' 0 4).toNat < 6 ∧ data.extractLsb' 4 28 = 0 := by
  simp only [isCommandWord, Bool.or_eq_true, beq_iff_eq] at h
  obtain (((rfl | rfl) | rfl) | rfl) | rfl := h <;> decide

/-- Settles O1: each encoding is a read or a write of its register, and a command's DATA is looked up again. -/
theorem decodeOfEncode : Obligations.DecodeOfEncode := by
  intro i hi
  cases i
  case cmdIllegal data =>
    have hdata : isCommandWord data = false := by simpa [Instr.wf] using hi
    exact (decode_mkTrans_write .cmd data).trans (congrArg _ (decodeCommand_of_not_isCommandWord hdata))
  case cmdArm | cmdDisarm | cmdExecute | cmdReset | cmdPoll => exact decode_mkTrans_write .cmd _
  case rdCmd => exact decode_mkTrans_read .cmd 0
  case rdStatus => exact decode_mkTrans_read .status 0
  case wrPause v => exact decode_mkTrans_write .pause v
  case rdPause => exact decode_mkTrans_read .pause 0
  case wrWidth v => exact decode_mkTrans_write .width v
  case rdWidth => exact decode_mkTrans_read .width 0
  case wrGap v => exact decode_mkTrans_write .gap v
  case rdGap => exact decode_mkTrans_read .gap 0
  case wrCount v => exact decode_mkTrans_write .count v
  case rdCount => exact decode_mkTrans_read .count 0
  case wrTrigkind v => exact decode_mkTrans_write .trigkind v
  case rdTrigkind => exact decode_mkTrans_read .trigkind 0
  case wrTrigpin v => exact decode_mkTrans_write .trigpin v
  case rdTrigpin => exact decode_mkTrans_read .trigpin 0
  case wrTrigbyte v => exact decode_mkTrans_write .trigbyte v
  case rdTrigbyte => exact decode_mkTrans_read .trigbyte 0
  case rdGcount => exact decode_mkTrans_read .gcount 0
  case wrFlags v => exact decode_mkTrans_write .flags v
  case rdFlags => exact decode_mkTrans_read .flags 0
  case wrOutctl v => exact decode_mkTrans_write .outctl v
  case rdOutctl => exact decode_mkTrans_read .outctl 0
  case wrUartdiv v => exact decode_mkTrans_write .uartdiv v
  case rdUartdiv => exact decode_mkTrans_read .uartdiv 0

/-! ### Encoding what was decoded (R106) -/

theorem decodeRead_isRead (r : Reg) : (decodeRead r).isRead = true := by
  cases r <;> rfl

theorem encode_decodeRead (r : Reg) : encode (decodeRead r) = mkTrans false (Reg.offset r) 0 := by
  cases r <;> rfl

/-- The five commands encode to the word they are decoded from, and ILLEGAL keeps it. -/
theorem encode_decodeCommand (data : Word) : encode (decodeCommand data) = mkTrans true (Reg.offset .cmd) data := by
  unfold decodeCommand
  split_ifs <;> simp_all [encode, Reg.offset]

theorem decodeCommand_isRead (data : Word) : (decodeCommand data).isRead = false := by
  unfold decodeCommand
  split_ifs <;> rfl

theorem decodeWrite_isRead {r : Reg} {data : Word} {i : Instr} (h : decodeWrite r data = .ok i) :
    i.isRead = false := by
  cases r
  case cmd =>
    cases h
    exact decodeCommand_isRead data
  all_goals cases h <;> rfl

theorem encode_of_decodeWrite {r : Reg} {data : Word} {i : Instr} (h : decodeWrite r data = .ok i) :
    encode i = mkTrans true (Reg.offset r) data := by
  cases r
  case cmd =>
    cases h
    exact encode_decodeCommand data
  all_goals cases h <;> rfl

/-- The mask of a register row keeps WE and ADDR of T and clears DATA (R106). -/
theorem and_accessMask (T : Trans) : T &&& 0x1FF00000000 = mkTrans (Trans.we T) (Trans.addr T) 0 := by
  conv_lhs => rw [← mkTrans_eta T]
  exact mkTrans_and_access _ _ _

/-- Settles O2: a read encodes to its WE and ADDR, a write to all three fields of T. -/
theorem encodeOfDecode : Obligations.EncodeOfDecode := by
  intro T i h
  obtain ⟨r, haddr, ⟨hwe, rfl⟩ | ⟨hwe, hi⟩⟩ := decode_eq_ok.mp h
  · refine ⟨Machine.decode_wf h, fun hwrite => ?_, fun _ => ?_⟩
    · simp [decodeRead_isRead] at hwrite
    · rw [and_accessMask, encode_decodeRead, haddr, hwe]
  · refine ⟨Machine.decode_wf h, fun _ => ?_, fun hread => ?_⟩
    · rw [encode_of_decodeWrite hi, haddr, ← hwe, mkTrans_eta]
    · simp [decodeWrite_isRead hi] at hread

/-! ### The rows of the opcode map (R106) -/

/-- A command row applies to its own word alone. -/
theorem commandRows_filter (T : Trans) :
    commandRows.filter (OpcodeRow.applies · T) = commandRows.filter (fun row => T == row.pattern) := by
  refine List.filter_congr fun row hrow => ?_
  have hmask : row.mask = BitVec.allOnes 41 := by
    revert row
    decide
  rw [OpcodeRow.applies, hmask, BitVec.and_allOnes]

/-- Whether a register row applies is read off WE and ADDR. -/
theorem accessRows_filter (we : Bool) (addr : Offset) (data : Word) :
    accessRows.filter (OpcodeRow.applies · (mkTrans we addr data)) =
      accessRows.filter (fun row => mkTrans we addr 0 == row.pattern) := by
  refine List.filter_congr fun row hrow => ?_
  have hmask : row.mask = 0x1FF00000000 := by
    revert row
    decide
  rw [OpcodeRow.applies, hmask, mkTrans_and_access]

theorem illegalRow_applies (we : Bool) (addr : Offset) (data : Word) :
    illegalRow.applies (mkTrans we addr data) = (mkTrans we addr 0 == mkTrans true (Reg.offset .cmd) 0) := by
  rw [← mkTrans_and_access we addr data]
  rfl

/-- Every row is the row of a mapped offset. -/
theorem ofOffset_of_mem_rows : ∀ row ∈ commandRows ++ illegalRow :: accessRows,
    Reg.ofOffset (Trans.addr row.pattern) ≠ none := by
  decide

theorem mkTrans_inj {we we' : Bool} {addr addr' : Offset} {data data' : Word} :
    mkTrans we addr data = mkTrans we' addr' data' ↔ we = we' ∧ addr = addr' ∧ data = data' := by
  constructor
  · intro h
    exact ⟨by simpa using congrArg Trans.we h, by simpa using congrArg Trans.addr h,
      by simpa using congrArg Trans.data h⟩
  · rintro ⟨rfl, rfl, rfl⟩
    rfl

/-- No command row applies to a transaction that is no write of CMD. -/
theorem commandRows_filter_eq_nil {we : Bool} {addr : Offset} (h : ¬(we = true ∧ addr = Reg.offset .cmd))
    (data : Word) : commandRows.filter (OpcodeRow.applies · (mkTrans we addr data)) = [] := by
  rw [commandRows_filter, List.filter_eq_nil_iff]
  intro row hrow happlies
  have hcmd : Trans.we row.pattern = true ∧ Trans.addr row.pattern = Reg.offset .cmd := by
    clear happlies
    revert row
    decide
  rw [← beq_iff_eq.mp happlies, mkTrans_we, mkTrans_addr] at hcmd
  exact h hcmd

/-- Elsewhere than at a write of CMD the register rows alone apply. -/
theorem rowsOf_access {we : Bool} {addr : Offset} (h : ¬(we = true ∧ addr = Reg.offset .cmd)) (data : Word) :
    rowsOf (mkTrans we addr data) = accessRows.filter (fun row => mkTrans we addr 0 == row.pattern) := by
  have hillegal : illegalRow.applies (mkTrans we addr data) = false := by
    rw [illegalRow_applies, beq_eq_false_iff_ne, Ne, mkTrans_inj]
    exact fun ⟨hwe, haddr, _⟩ => h ⟨hwe, haddr⟩
  simp [rowsOf, commandRows_filter_eq_nil h, hillegal, accessRows_filter]

/-- At a write of CMD a command row applies, or else the ILLEGAL row. -/
theorem rowsOf_command (data : Word) :
    (rowsOf (mkTrans true (Reg.offset .cmd) data)).map OpcodeRow.mnemonic = [(decodeCommand data).mnemonic] := by
  have haccess : accessRows.filter (OpcodeRow.applies · (mkTrans true (Reg.offset .cmd) data)) = [] := by
    rw [accessRows_filter]
    rfl
  have hillegal : illegalRow.applies (mkTrans true (Reg.offset .cmd) data) = true := by
    rw [illegalRow_applies, beq_self_eq_true]
  cases hdata : isCommandWord data
  · have hcommands : commandRows.filter (OpcodeRow.applies · (mkTrans true (Reg.offset .cmd) data)) = [] := by
      rw [commandRows_filter, List.filter_eq_nil_iff]
      intro row hrow happlies
      have hpattern : isCommandWord (Trans.data row.pattern) = true := by
        clear happlies
        revert row
        decide
      rw [← beq_iff_eq.mp happlies, mkTrans_data, hdata] at hpattern
      cases hpattern
    rw [rowsOf, haccess, hcommands, hillegal, decodeCommand_of_not_isCommandWord hdata]
    rfl
  · rw [rowsOf, haccess]
    simp only [isCommandWord, Bool.or_eq_true, beq_iff_eq] at hdata
    obtain (((rfl | rfl) | rfl) | rfl) | rfl := hdata <;> rfl

theorem rowsOf_read (r : Reg) (data : Word) :
    (rowsOf (mkTrans false (Reg.offset r) data)).map OpcodeRow.mnemonic = [(decodeRead r).mnemonic] := by
  rw [rowsOf_access (by simp)]
  cases r <;> rfl

theorem rowsOf_write {r : Reg} {data : Word} {i : Instr} (h : decodeWrite r data = .ok i) :
    (rowsOf (mkTrans true (Reg.offset r) data)).map OpcodeRow.mnemonic = [i.mnemonic] := by
  cases r
  case cmd =>
    cases h
    exact rowsOf_command data
  all_goals
    rw [rowsOf_access (by decide)]
    cases h <;> rfl

/-- The write of a read-only register, a BusError, has no row (R85). -/
theorem rowsOf_readOnly {r : Reg} {data : Word} {cause : BusCause} (h : decodeWrite r data = .error cause) :
    rowsOf (mkTrans true (Reg.offset r) data) = [] := by
  cases r
  case status | gcount =>
    rw [rowsOf_access (by decide)]
    rfl
  all_goals cases h

theorem rowsOf_unmapped {addr : Offset} (h : Reg.ofOffset addr = none) (we : Bool) (data : Word) :
    rowsOf (mkTrans we addr data) = [] := by
  have hcmd : ¬(we = true ∧ addr = Reg.offset .cmd) :=
    fun ⟨_, haddr⟩ => Reg.offset_ne_of_ofOffset h .cmd haddr.symm
  rw [rowsOf_access hcmd, List.filter_eq_nil_iff]
  intro row hrow happlies
  refine ofOffset_of_mem_rows row (by simp [hrow]) ?_
  rw [← beq_iff_eq.mp happlies, mkTrans_addr, h]

/-- Settles O3: an unmapped offset has no row; a mapped one has the row of its read or of its write. -/
theorem exactlyOneOpcodeRow : Obligations.ExactlyOneOpcodeRow := by
  intro T
  cases hr : Reg.ofOffset (Trans.addr T) with
  | none =>
    rw [← mkTrans_eta T, rowsOf_unmapped hr]
    simp [decode, hr]
  | some r =>
    rw [← mkTrans_eta T, ← Reg.offset_of_ofOffset hr]
    cases Trans.we T
    · rw [rowsOf_read, decode_mkTrans_read]
    · rw [decode_mkTrans_write]
      cases hd : decodeWrite r (Trans.data T) with
      | ok i => exact rowsOf_write hd
      | error cause => exact congrArg _ (rowsOf_readOnly hd)

/-- Settles O4: the five command words have none of the three properties; the effect is the instruction's. -/
theorem illegalCommandWords : Obligations.IllegalCommandWords := by
  refine ⟨fun data hdata => ?_, fun data s => Machine.exec_eq _ s⟩
  have hillegal : isCommandWord data = false := by
    rw [Bool.eq_false_iff]
    intro hcommand
    obtain ⟨hopc, hlt, hhigh⟩ := isCommandWord_fields hcommand
    obtain h | h | h := hdata
    · exact hopc h
    · omega
    · exact h hhigh
  exact (decode_mkTrans_write .cmd data).trans (congrArg _ (decodeCommand_of_not_isCommandWord hillegal))

/-- Settles O5: each word is a write or a read of the register at its offset. -/
theorem workedEncodings : Obligations.WorkedEncodings :=
  ⟨decode_mkTrans_write .width 150, decode_mkTrans_write .trigpin 0x103, decode_mkTrans_write .trigpin 3,
    decode_mkTrans_write .cmd 1, decode_mkTrans_write .cmd 5, decode_mkTrans_read .gcount 0,
    decode_mkTrans_read .status 0⟩

end Sys2Proof

namespace Sys2Proof.Machine

/-! ### The API (R110 to R112) -/

theorem issue_eq (i : Instr) (s : State) :
    issue i s = some (s.respond (execBlock i s.blk) (execRdata i s.blk) false, execRdata i s.blk) := by
  rw [issue, exec_eq]
  rfl

/-- A call that reads after a command: the block is as the command leaves it, and the read sees that block (R90). -/
theorem issueAll_pair (i j : Instr) (s : State) : ∃ t, issueAll [i, j] s =
      some (t, [execRdata i s.blk, execRdata j (execBlock i s.blk)]) ∧ t.blk = execBlock j (execBlock i s.blk) := by
  simp [issueAll, issue_eq]

theorem ResultCode.code_eq_zero {c : ResultCode} : ResultCode.code c = 0 ↔ c = .ok := by
  cases c <;> decide

/-- The success an API call reads off STATUS is that RESULT is OK (R110, R260). -/
theorem statusWord_success (b : Block) : (statusWord b).extractLsb' 0 3 = 0 ↔ b.result = .ok := by
  rw [statusWord_result, ResultCode.code_eq_zero]

/-- EXECUTE succeeds exactly on an armed block (R195). -/
theorem executeCommand_result_eq_ok {P : Params} {b : Block} :
    (executeCommand P b).result = .ok ↔ b.armed = true := by
  rcases executeCommand_cases P b with ⟨ha, h⟩ | ⟨ha, h⟩ <;> simp [h, ha]

theorem pollCommand_gcount (b : Block) :
    (pollCommand b).gcount = b.gcount + if b.armed = true ∧ b.q = [] then 1 else 0 := by
  rcases pollCommand_cases b with ⟨ha, hq, h⟩ | ⟨hn, h⟩
  · simp [h, ha, hq]
  · simp [h, hn]

/-- POLL leaves no block armed whose queue is empty (R202). -/
theorem pollCommand_armed {b : Block} (hq : b.q = []) : (pollCommand b).armed = false := by
  rcases pollCommand_cases b with ⟨_, _, h⟩ | ⟨hn, h⟩
  · simp [h]
  · rw [h]
    simpa [hq] using hn

/-- Settles O59: each call is a command and a read of the block that the command leaves. -/
theorem apiReturnsFollowTheCommands : Obligations.ApiReturnsFollowTheCommands := by
  refine ⟨fun s => ?_, fun s => ?_, fun s => ?_⟩
  · obtain ⟨t, hrun, hblk⟩ := issueAll_pair .cmdArm .rdStatus s
    refine ⟨t, _, by rw [ApiCall.run, ApiCall.expansion, hrun]; rfl, ?_, hblk⟩
    rw [decide_eq_true_iff, ← armCommand_result]
    exact statusWord_success (armCommand Config.params s.blk)
  · obtain ⟨t, hrun, hblk⟩ := issueAll_pair .cmdExecute .rdStatus s
    refine ⟨t, _, by rw [ApiCall.run, ApiCall.expansion, hrun]; rfl, ?_, hblk⟩
    rw [decide_eq_true_iff, ← executeCommand_result_eq_ok (P := Config.params)]
    exact statusWord_success (executeCommand Config.params s.blk)
  · obtain ⟨t, hrun, hblk⟩ := issueAll_pair .cmdPoll .rdGcount s
    replace hblk : t.blk = pollCommand s.blk := hblk
    refine ⟨t, ?_, ?_, fun hq => ?_⟩
    · rw [ApiCall.run, ApiCall.expansion, hrun, hblk]
      rfl
    · rw [hblk, pollCommand_gcount]
    · rw [hblk, pollCommand_armed hq]

end Sys2Proof.Machine

/-!
PROOF. The assembler (R108, R109): the numbers, the words of a line, and what each form of line is read as.
-/

namespace Sys2Proof.Machine

/-! ### Numbers (R108) -/

theorem toNat_ofNat_of_ascii {n : Nat} (h : n < 128) : (Char.ofNat n).toNat = n := by
  rw [Char.toNat_ofNat, if_pos (.inl (by omega))]

/-- The codes of the digits: 0 to 9 from 48, a to f from 97, A to F from 65. -/
theorem IsDigit.toNat {c : Char} {d : Nat} (h : IsDigit c d) :
    (d < 10 ∧ c.toNat = 48 + d) ∨ (10 ≤ d ∧ d < 16 ∧ (c.toNat = 87 + d ∨ c.toNat = 55 + d)) := by
  obtain ⟨hd, rfl⟩ | ⟨hlo, hhi, rfl | rfl⟩ := h
  · exact .inl ⟨hd, toNat_ofNat_of_ascii (by omega)⟩
  · exact .inr ⟨hlo, hhi, .inl (toNat_ofNat_of_ascii (by omega))⟩
  · exact .inr ⟨hlo, hhi, .inr (toNat_ofNat_of_ascii (by omega))⟩

theorem IsDigit.digitValue_eq {base : Nat} {c : Char} {d : Nat} (h : IsDigit c d) (hd : d < base) :
    digitValue base c = some d := by
  have hvalue : (if 48 ≤ c.toNat ∧ c.toNat ≤ 57 then c.toNat - 48
      else if 97 ≤ c.toNat ∧ c.toNat ≤ 102 then c.toNat - 87
      else if 65 ≤ c.toNat ∧ c.toNat ≤ 70 then c.toNat - 55 else 16) = d := by
    have := h.toNat
    split_ifs <;> omega
  simp only [digitValue, hvalue, if_pos hd]

/-- Reading digits after a value already read goes on by Horner's rule. -/
theorem foldl_digitValue {base : Nat} {text : List Char} {ds : List Nat} (h : List.Forall₂ IsDigit text ds)
    (hlt : ∀ d ∈ ds, d < base) (start : Nat) :
    text.foldl (fun acc c => acc.bind fun a => (digitValue base c).map fun d => a * base + d) (some start) =
      some (ds.foldl (fun a d => a * base + d) start) := by
  induction h generalizing start with
  | nil => rfl
  | cons hdigit _ ih =>
    obtain ⟨hhead, htail⟩ := List.forall_mem_cons.mp hlt
    simp only [List.foldl_cons, Option.bind_some, hdigit.digitValue_eq hhead, Option.map_some]
    exact ih htail _

theorem IsDigits.readDigits_eq {base : Nat} {text : List Char} {n : Nat} (h : IsDigits base text n) :
    readDigits base text = some n := by
  obtain ⟨ds, hne, hlt, htext, rfl⟩ := h
  cases htext with
  | nil => exact absurd rfl hne
  | cons hdigit hrest => exact foldl_digitValue (.cons hdigit hrest) hlt 0

/-- No letter but a to f is a digit, so `0x` begins no decimal number. -/
theorem IsDigits.ne_hex {text digits : List Char} {n : Nat} (h : IsDigits 10 text n) :
    text ≠ '0' :: 'x' :: digits := by
  rintro rfl
  obtain ⟨ds, _, _, htext, _⟩ := h
  obtain _ | ⟨_, _ | ⟨hx, _⟩⟩ := htext
  have := hx.toNat
  have hcode : 'x'.toNat = 120 := rfl
  omega

theorem IsNumberText.readNumber_eq {text : List Char} {n : Nat} (h : IsNumberText text n) :
    readNumber text = some n := by
  obtain h | ⟨digits, rfl, h⟩ := h
  · unfold readNumber
    split
    · exact absurd rfl h.ne_hex
    · exact h.readDigits_eq
  · exact h.readDigits_eq

theorem IsNumberText.readBits_eq {text : List Char} {n : Nat} (h : IsNumberText text n) {bits : Nat}
    (hn : n < 2 ^ bits) : readBits bits text = some (BitVec.ofNat bits n) := by
  rw [readBits, h.readNumber_eq, Option.bind_some, if_pos hn]

/-! ### The words of a line -/

/-- Characters that neither end a word nor can begin a comment. -/
def isWordChar (c : Char) : Bool := c != ' ' && c != ',' && c != '-'

/-- Text that is one word of a line, wherever it stands. -/
def isWord (word : List Char) : Bool := !word.isEmpty && word.all isWordChar

theorem isWord_iff {word : List Char} :
    isWord word = true ↔ word ≠ [] ∧ ∀ c ∈ word, c ≠ ' ' ∧ c ≠ ',' ∧ c ≠ '-' := by
  simp [isWord, isWordChar, and_assoc]

theorem isWord_append {a b : List Char} (ha : isWord a = true) (hb : isWord b = true) : isWord (a ++ b) = true := by
  simp_all [isWord]

/-- Spaces, commas and dashes come before the digits and letters. -/
theorem isWordChar_of_le_toNat {c : Char} (h : 48 ≤ c.toNat) : isWordChar c = true := by
  have hne (d : Char) (hd : d.toNat < 48) : c ≠ d := by
    rintro rfl
    omega
  simp [isWordChar, hne ' ' (by decide), hne ',' (by decide), hne '-' (by decide)]

theorem IsDigit.isWordChar {c : Char} {d : Nat} (h : IsDigit c d) : isWordChar c = true := by
  have := h.toNat
  exact isWordChar_of_le_toNat (by omega)

theorem IsDigits.isWord {base : Nat} {text : List Char} {n : Nat} (h : IsDigits base text n) : isWord text = true := by
  obtain ⟨ds, hne, _, htext, _⟩ := h
  have hall : text.all isWordChar = true := by
    clear * - htext
    induction htext with
    | nil => rfl
    | cons hdigit _ ih => rw [List.all_cons, hdigit.isWordChar, ih, Bool.and_self]
  cases htext with
  | nil => exact absurd rfl hne
  | cons => exact hall

theorem IsNumberText.isWord {text : List Char} {n : Nat} (h : IsNumberText text n) : isWord text = true := by
  obtain h | ⟨digits, rfl, h⟩ := h
  · exact h.isWord
  · exact isWord_append (a := ['0', 'x']) rfl h.isWord

theorem isWord_regName (r : Reg) : isWord r.name.toList = true := by
  cases r <;> decide

theorem isWord_commandName (c : Command) : isWord c.name.toList = true := by
  cases c <;> decide

theorem dropComment_of_not_mem {cs : List Char} (h : '-' ∉ cs) : dropComment cs = cs := by
  induction cs with
  | nil => rfl
  | cons c cs ih =>
    obtain ⟨hc, hcs⟩ := not_or.mp (List.mem_cons.not.mp h)
    cases cs with
    | nil => rfl
    | cons d rest => rw [dropComment, if_neg (fun hdash => hc hdash.1.symm), ih hcs]

theorem isWord_not_mem_dash {word : List Char} (h : isWord word = true) : '-' ∉ word :=
  fun hmem => ((isWord_iff.mp h).2 '-' hmem).2.2 rfl

/-- The characters of a word are read one by one. -/
theorem lineWords_append {word : List Char} (h : ∀ c ∈ word, c ≠ ' ' ∧ c ≠ ',' ∧ c ≠ '-') (acc rest : List Char) :
    lineWords acc (word ++ rest) = lineWords (word.reverse ++ acc) rest := by
  induction word generalizing acc with
  | nil => rfl
  | cons c word ih =>
    obtain ⟨⟨hspace, hcomma, _⟩, hword⟩ := List.forall_mem_cons.mp h
    rw [List.cons_append, lineWords, if_neg hspace, if_neg hcomma, ih hword, List.reverse_cons, List.append_assoc]
    rfl

theorem lineWords_last {word : List Char} (h : isWord word = true) : lineWords [] word = [word] := by
  obtain ⟨hne, hchars⟩ := isWord_iff.mp h
  have hread := lineWords_append hchars [] []
  rw [List.append_nil, List.append_nil] at hread
  simp [hread, lineWords, hne]

theorem lineWords_space {word : List Char} (h : isWord word = true) (rest : List Char) :
    lineWords [] (word ++ " ".toList ++ rest) = word :: lineWords [] rest := by
  obtain ⟨hne, hchars⟩ := isWord_iff.mp h
  rw [List.append_assoc, lineWords_append hchars]
  simp [lineWords, hne]

theorem lineWords_comma {word : List Char} (h : isWord word = true) (rest : List Char) :
    lineWords [] (word ++ ", ".toList ++ rest) = word :: [','] :: lineWords [] rest := by
  obtain ⟨hne, hchars⟩ := isWord_iff.mp h
  rw [List.append_assoc, lineWords_append hchars]
  simp [lineWords, hne]

/-! ### The forms of a line (R108, R109) -/

/-- A line is its operation and the words after it; without a dash nothing of it is a comment. -/
theorem lineWords_line {op rest : List Char} (hop : isWord op = true) (hrest : '-' ∉ rest) :
    lineWords [] (dropComment (op ++ " ".toList ++ rest)) = op :: lineWords [] rest := by
  rw [dropComment_of_not_mem (by simp [isWord_not_mem_dash hop, hrest]), lineWords_space hop]

theorem readLine_cmd {a : List Char} (ha : isWord a = true) :
    readLine ("CMD ".toList ++ a) = (commandNames.lookup a).map .cmd := by
  have hwords : lineWords [] (dropComment ("CMD ".toList ++ a)) = "CMD".toList :: lineWords [] a :=
    lineWords_line (op := "CMD".toList) rfl (isWord_not_mem_dash ha)
  rw [readLine, hwords, lineWords_last ha]
  rfl

theorem readLine_wait {a : List Char} (ha : isWord a = true) :
    readLine ("WAIT ".toList ++ a) = (readDigits 10 a).map .wait := by
  have hwords : lineWords [] (dropComment ("WAIT ".toList ++ a)) = "WAIT".toList :: lineWords [] a :=
    lineWords_line (op := "WAIT".toList) rfl (isWord_not_mem_dash ha)
  rw [readLine, hwords, lineWords_last ha]
  rfl

theorem readLine_rd {rest : List Char} (h : '-' ∉ rest) :
    readLine ("RD ".toList ++ rest) = readRead (lineWords [] rest) := by
  have hwords : lineWords [] (dropComment ("RD ".toList ++ rest)) = "RD".toList :: lineWords [] rest :=
    lineWords_line (op := "RD".toList) rfl h
  rw [readLine, hwords]
  rfl

theorem readLine_wr {rest : List Char} (h : '-' ∉ rest) :
    readLine ("WR ".toList ++ rest) = readWrite (lineWords [] rest) := by
  have hwords : lineWords [] (dropComment ("WR ".toList ++ rest)) = "WR".toList :: lineWords [] rest :=
    lineWords_line (op := "WR".toList) rfl h
  rw [readLine, hwords]
  rfl

theorem readLine_rd_word {a : List Char} (ha : isWord a = true) : readLine ("RD ".toList ++ a) = readRead [a] := by
  rw [readLine_rd (isWord_not_mem_dash ha), lineWords_last ha]

theorem readLine_wr_value {a b : List Char} (ha : isWord a = true) (hb : isWord b = true) :
    readLine ("WR ".toList ++ (a ++ ", ".toList ++ b)) = readWrite [a, [','], b] := by
  rw [readLine_wr (by simp [isWord_not_mem_dash, ha, hb]), lineWords_comma ha, lineWords_last hb]

theorem readLine_wr_fields {a b c : List Char} (ha : isWord a = true) (hb : isWord b = true) (hc : isWord c = true) :
    readLine ("WR ".toList ++ (a ++ ", ".toList ++ (b ++ ", ".toList ++ c))) =
      readWrite [a, [','], b, [','], c] := by
  rw [readLine_wr (by simp [isWord_not_mem_dash, ha, hb, hc]), lineWords_comma ha, lineWords_comma hb,
    lineWords_last hc]

/-! ### The operands (R108, R109) -/

theorem commandNames_lookup (c : Command) : commandNames.lookup c.name.toList = some c := by
  cases c <;> decide

theorem readRead_name (r : Reg) : readRead [r.name.toList] = some (.rd r) := by
  cases r <;> decide

theorem readWrite_name (r : Reg) (value : List Char) :
    readWrite [r.name.toList, [','], value] = (readValue r value).map (.wr r) := by
  cases r <;> rfl

/-- A number is none of the words that stand for a value. -/
theorem IsNumberText.ne_of_readNumber {text word : List Char} {n : Nat} (h : IsNumberText text n)
    (hword : readNumber word = none) : text ≠ word := by
  rintro rfl
  rw [h.readNumber_eq] at hword
  cases hword

theorem IsNumberText.readValue_eq {text : List Char} {n : Nat} (h : IsNumberText text n) (hn : n < 2 ^ 32) (r : Reg) :
    readValue r text = some (BitVec.ofNat 32 n) := by
  have hnone : text ≠ "none".toList := h.ne_of_readNumber (by decide)
  have hgpio : text ≠ "gpio".toList := h.ne_of_readNumber (by decide)
  have huart : text ≠ "uart".toList := h.ne_of_readNumber (by decide)
  rw [readValue, if_neg (fun hc => hnone hc.2), if_neg (fun hc => hgpio hc.2), if_neg (fun hc => huart hc.2),
    h.readBits_eq hn]

theorem IsNumberText.readPin_eq {text : List Char} {n : Nat} (h : IsNumberText text n) (hn : n < 2 ^ 8) :
    readPin text = some (BitVec.ofNat 8 n) := by
  rw [readPin, if_neg (h.ne_of_readNumber (by decide)), h.readBits_eq hn]

/-- The fields of a TRIGPIN write (R109). -/
theorem readFields_trigpin {text edge : List Char} {pin : Byte} {e : Edge} (hpin : readPin text = some pin)
    (hedge : readEdge edge = some e) :
    readFields .trigpin ("pin=".toList ++ text) ("edge=".toList ++ edge) = some (trigpinWord pin e) := by
  have hp : readField "pin".toList ("pin=".toList ++ text) = some text := rfl
  have he : readField "edge".toList ("edge=".toList ++ edge) = some edge := rfl
  rw [readFields, hp, Option.bind_some, he, Option.bind_some, hpin, Option.bind_some, hedge]
  rfl

theorem readWrite_fields (r : Reg) (a b : List Char) :
    readWrite [r.name.toList, [','], a, [','], b] = (readFields r a b).map (.wr r) := by
  cases r <;> rfl

/-- The TRIGPIN word of a number: EDGE is worth 256 (R56, R109). -/
theorem trigpinWord_ofNat {n : Nat} (hn : n < 2 ^ 8) (e : Edge) :
    trigpinWord (BitVec.ofNat 8 n) e = BitVec.ofNat 32 ((if e = .falling then 256 else 0) + n) := by
  apply BitVec.eq_of_toNat_eq
  rw [trigpinWord_toNat, BitVec.toNat_ofNat, BitVec.toNat_ofNat]
  split <;> omega

theorem readLine_trigpin {text edge : List Char} {n : Nat} {e : Edge} (h : IsNumberText text n) (hn : n < 2 ^ 8)
    (hword : isWord edge = true) (hedge : readEdge edge = some e) :
    readLine ("WR TRIGPIN, pin=".toList ++ text ++ (", edge=".toList ++ edge)) =
      some (.wr .trigpin (BitVec.ofNat 32 ((if e = .falling then 256 else 0) + n))) := by
  have hline : "WR TRIGPIN, pin=".toList ++ text ++ (", edge=".toList ++ edge) =
      "WR ".toList ++ (Reg.trigpin.name.toList ++ ", ".toList ++
        ("pin=".toList ++ text ++ ", ".toList ++ ("edge=".toList ++ edge))) := by
    simp [Reg.name]
  rw [hline, readLine_wr_fields (isWord_regName _) (isWord_append (by decide) h.isWord)
    (isWord_append (by decide) hword), readWrite_fields,
    readFields_trigpin (h.readPin_eq hn) hedge, trigpinWord_ofNat hn, Option.map_some]

/-- Settles O60: a line's transaction is a read or a write of its register; its text is cut into words, and the numbers
among them are read. -/
theorem assembledLinesDecode : Obligations.AssembledLinesDecode := by
  refine ⟨fun c => ⟨_, rfl, ?_⟩, fun r => ⟨_, rfl, ?_⟩, fun r v => ⟨_, rfl, ?_⟩, fun o v => ⟨rfl, rfl⟩, fun n => rfl,
    fun c => ?_, fun r => ?_, fun r text n htext hn => ?_, fun text text' n n' htext hn htext' hn' => ⟨?_, ?_⟩,
    fun text n htext => ?_, fun text n htext hn => ⟨?_, ?_⟩, by decide, by decide, by decide, by decide, by decide,
    by decide, by decide, by decide, by decide⟩
  · rw [decode_mkTrans_write]
    cases c <;> rfl
  · rw [decode_mkTrans_read]
    cases r <;> rfl
  · rw [decode_mkTrans_write]
    cases r <;> rfl
  · rw [readLine_cmd (isWord_commandName c), commandNames_lookup, Option.map_some]
  · rw [readLine_rd_word (isWord_regName r), readRead_name]
  · rw [List.append_assoc, List.append_assoc, ← List.append_assoc r.name.toList,
      readLine_wr_value (isWord_regName r) htext.isWord, readWrite_name, htext.readValue_eq hn, Option.map_some]
  · have hword : isWord ('@' :: text) = true := isWord_append (a := ['@']) rfl htext.isWord
    refine (readLine_rd_word hword).trans ?_
    rw [readRead, htext.readBits_eq hn, Option.map_some]
  · have hword : isWord ('@' :: text) = true := isWord_append (a := ['@']) rfl htext.isWord
    have hline : "WR @".toList ++ text ++ ", ".toList ++ text' =
        "WR ".toList ++ ('@' :: text ++ ", ".toList ++ text') := by
      simp
    rw [hline, readLine_wr_value hword htext'.isWord, readWrite, if_pos rfl, htext.readBits_eq hn,
      htext'.readBits_eq hn']
    rfl
  · rw [readLine_wait htext.isWord, htext.readDigits_eq, Option.map_some]
  · exact (readLine_trigpin (e := .rising) htext hn (by decide) (by decide)).trans (by simp)
  · exact readLine_trigpin (e := .falling) htext hn (by decide) (by decide)

end Sys2Proof.Machine

/-!
PROOF. The trigger detectors over runs of cycles (40_trigger_detector.md): what a fire does, the GPIO detector's
debounce, the UART detector's ticks and bits, and the obligations of the chapter.
-/

namespace Sys2Proof.Machine

/-! ### Fires (R130, R131) -/

theorem gpioStep_of_not_running {P : Params} {edge : Edge} {s : Bool} {gd : Gd} (h : gd.running = false) :
    gpioStep P edge s gd = (gd, false) := by
  unfold Gd.running at h
  unfold gpioStep
  cases hst : gd.st <;> simp_all

/-- The GPIO detector fires exactly where it becomes done (R134). -/
theorem gpioStep_fired_iff {P : Params} {edge : Edge} {s : Bool} {gd : Gd} :
    (gpioStep P edge s gd).2 = true ↔ gd.st ≠ .done ∧ (gpioStep P edge s gd).1.st = .done := by
  unfold gpioStep
  cases hst : gd.st <;> simp only
  all_goals (repeat' split)
  all_goals simp [hst]

/-- The UART detector fires exactly where a tick makes it done (R142). -/
theorem uartTick_fired_iff {byte : Byte} {s : Bool} {ud : Ud} :
    (uartTick byte s ud).2 = true ↔ ud.st ≠ .done ∧ (uartTick byte s ud).1.st = .done := by
  unfold uartTick
  cases hst : ud.st <;> simp only
  all_goals (repeat' split)
  all_goals simp [hst]

theorem uartStep_fired_iff {lat : Lat} {s : Bool} {ud : Ud} :
    (uartStep lat s ud).2 = true ↔ ud.st ≠ .done ∧ (uartStep lat s ud).1.st = .done := by
  unfold uartStep
  split
  · exact uartTick_fired_iff
  · simp

theorem detStep_fired (P : Params) (inp : Inputs) (b : Block) : (detStep P inp b).fired =
    ((b.gd.running && (gpioStep P b.lat.edge (inp.line b.lat.pin) b.gd).2) ||
      (b.ud.running && (uartStep b.lat inp.uartRx b.ud).2)) := by
  unfold detStep
  cases b.gd.running <;> cases b.ud.running <;> rfl

theorem Gd.running_of_done {gd : Gd} (h : gd.st = .done) : gd.running = false := by simp [running, h]

theorem Ud.running_of_done {ud : Ud} (h : ud.st = .done) : ud.running = false := by simp [running, h]

/-- Where the UART detector does not run, a fire is the GPIO detector becoming done (R131, R134). -/
theorem detStep_fired_iff_gpio {P : Params} {inp : Inputs} {b : Block} (hu : b.ud.running = false) :
    (detStep P inp b).fired = true ↔ b.gd.st ≠ .done ∧ (detStep P inp b).gd.st = .done := by
  rw [detStep_fired, detStep_gd, hu]
  cases hrun : b.gd.running <;> simp [gpioStep_fired_iff]

/-- Where the GPIO detector does not run, a fire is the UART detector becoming done (R131, R142). -/
theorem detStep_fired_iff_uart {P : Params} {inp : Inputs} {b : Block} (hg : b.gd.running = false) :
    (detStep P inp b).fired = true ↔ b.ud.st ≠ .done ∧ (detStep P inp b).ud.st = .done := by
  rw [detStep_fired, detStep_ud, hg]
  cases hrun : b.ud.running <;> simp [uartStep_fired_iff]

/-- Settles O25: the fire's writes are the cycle's, and the detector that fires is done. -/
theorem fireSetsFiredAndRelease : Obligations.FireSetsFiredAndRelease := by
  intro P inp b h
  exact ⟨by simp [h], by simp [h], detStep_fired_done h⟩

/-! ### Which inputs the detectors read (R135, R148) -/

/-- The detectors read the line LAT.pin where the GPIO detector runs, and `uart_rx` where the UART detector runs. -/
theorem detStep_congr {P : Params} {inp inp' : Inputs} {b : Block}
    (hg : b.gd.running = true → inp.line b.lat.pin = inp'.line b.lat.pin)
    (hu : b.ud.running = true → inp.uartRx = inp'.uartRx) : detStep P inp b = detStep P inp' b := by
  unfold detStep
  cases hgr : b.gd.running <;> cases hur : b.ud.running <;> simp_all

/-- A cycle reads its inputs through the detectors alone (R172). -/
theorem hwStep_congr {P : Params} {inp inp' : Inputs} {b : Block} (h : detStep P inp b = detStep P inp' b) :
    hwStep P inp b = hwStep P inp' b := by
  unfold hwStep
  rw [h]

section Run

variable {P : Params} {inp : Nat → Inputs} {b : Block}

@[simp] theorem hwRun_zero (P : Params) (inp : Nat → Inputs) (b : Block) : hwRun P inp 0 b = b := rfl

theorem hwRun_succ (P : Params) (inp : Nat → Inputs) (n : Nat) (b : Block) :
    hwRun P inp (n + 1) b = hwStep P (inp n) (hwRun P inp n b) := rfl

@[simp] theorem hwRun_lat (P : Params) (inp : Nat → Inputs) (n : Nat) (b : Block) :
    (hwRun P inp n b).lat = b.lat := by
  induction n with
  | zero => rfl
  | succ n ih => rw [hwRun_succ, hwStep_lat, ih]

/-- No cycle starts a detector (R130, R138). -/
theorem hwRun_gd_running {n : Nat} (h : (hwRun P inp n b).gd.running = true) : b.gd.running = true := by
  induction n with
  | zero => exact h
  | succ n ih => exact ih (detStep_gd_running h)

theorem hwRun_ud_running {n : Nat} (h : (hwRun P inp n b).ud.running = true) : b.ud.running = true := by
  induction n with
  | zero => exact h
  | succ n ih => exact ih (detStep_ud_running (P := P) h)

theorem hwRun_gd_not_running (h : b.gd.running = false) (n : Nat) : (hwRun P inp n b).gd.running = false :=
  Bool.eq_false_iff.mpr fun hrun => by simp [hwRun_gd_running hrun] at h

theorem hwRun_ud_not_running (h : b.ud.running = false) (n : Nat) : (hwRun P inp n b).ud.running = false :=
  Bool.eq_false_iff.mpr fun hrun => by simp [hwRun_ud_running hrun] at h

/-- A state that every cycle leaves as it is, whatever its inputs of this run. -/
theorem hwRun_of_still (h : ∀ n, hwStep P (inp n) b = b) (n : Nat) : hwRun P inp n b = b := by
  induction n with
  | zero => rfl
  | succ n ih => rw [hwRun_succ, ih, h n]

end Run

/-- Settles O33, by induction on the cycles: a detector that runs later ran at the start. -/
theorem unselectedInputsDoNotMatter : Obligations.UnselectedInputsDoNotMatter := by
  intro P inp inp' b hg hu n
  induction n with
  | zero => rfl
  | succ n ih =>
    rw [hwRun_succ, hwRun_succ, ← ih]
    refine hwStep_congr (detStep_congr (fun hrun => ?_) fun hrun => hu (hwRun_ud_running hrun) n)
    rw [hwRun_lat]
    exact hg (hwRun_gd_running hrun) n

/-- Settles O27, by induction on the cycles: a detector that does not run takes no step. -/
theorem doneDetectorIsInert : Obligations.DoneDetectorIsInert := by
  intro P inp b n hg hu
  have hstill (m : Nat) : detStep P (inp m) (hwRun P inp m b) = ⟨(hwRun P inp m b).gd, (hwRun P inp m b).ud, false⟩ :=
    detStep_of_not_running (hwRun_gd_not_running hg m) (hwRun_ud_not_running hu m)
  refine ⟨?_, ?_, ?_, by rw [hstill]⟩
  all_goals induction n with
    | zero => rfl
    | succ n ih => simp [hwRun_succ, hstill, ih]

/-! ### Waiting for a fire (R133, R166, R172) -/

/-- A waiting generator with RELEASE clear leaves a cycle without a fire to the detectors (R166). -/
theorem hwStep_of_not_fired {P : Params} {inp : Inputs} {b : Block} (hwait : b.pg.st = .wait)
    (hrel : b.release = false) (hno : (detStep P inp b).fired = false) :
    hwStep P inp b = { b with gd := (detStep P inp b).gd, ud := (detStep P inp b).ud } := by
  have hpg : pgStep P false b.pg b.q = (b.pg, b.q) := by simp [pgStep, hwait]
  simp [hwStep, hpg, hno, hrel, nextRelease, nextFired]

/-- After a successful ARM the generator waits, so a cycle in which the detectors stay as they are leaves the block as
it is (R191). -/
theorem hwStep_armCommand {P : Params} {inp : Inputs} {b : Block} (hok : armCheck P b = .ok)
    (hdet : detStep P inp (armCommand P b) = ⟨(armCommand P b).gd, (armCommand P b).ud, false⟩) :
    hwStep P inp (armCommand P b) = armCommand P b := by
  have harm : armCommand P b = b.armEffects.withResult .ok := by rw [armCommand, hok]
  have hstep := hwStep_of_not_fired (by simp [harm, Block.armEffects_eq]) (by simp [harm, Block.armEffects_eq])
    (congrArg Detected.fired hdet)
  rw [hstep, hdet]

/-- Settles O28: with kind None ARM's checks pass, and no detector runs that could end the wait. -/
theorem kindNoneWaits : Obligations.KindNoneWaits := by
  intro P inp b n harmed hkind
  have hok : armCheck P b = .ok := armCheck_eq_ok.mpr ⟨harmed, by simp [hkind], by simp [hkind, Params.available]⟩
  have harm : armCommand P b = b.armEffects.withResult .ok := by rw [armCommand, hok]
  have hgd : (armCommand P b).gd.st = .off := by simp [harm, Block.armEffects_eq, hkind]
  have hud : (armCommand P b).ud.st = .off := by simp [harm, Block.armEffects_eq, hkind]
  exact ⟨hwRun_of_still (fun m => hwStep_armCommand hok (detStep_of_off hgd hud)) n,
    by simp [harm, Block.armEffects_eq], hgd, hud, by simp [harm, Block.armEffects_eq]⟩

/-! ### The GPIO detector's step, by what it has counted (R134) -/

/-- G_WAIT_IDLE is left at the first idle sample (R134, R135 item 1). -/
theorem gpioStep_waitIdle {gd : Gd} (h : gd.st = .waitIdle) (P : Params) (edge : Edge) (s : Bool) :
    gpioStep P edge s gd = ({ gd with st := if s = edge.active then .waitIdle else .waitActive }, false) := by
  unfold gpioStep
  simp only [h]
  split <;> simp_all [← h]

/-- Settles O31: a detector in G_WAIT_IDLE that samples the active level stays as it is. -/
theorem stuckGpioLineNeverFires : Obligations.StuckGpioLineNeverFires := by
  intro P inp b hok hkind hline n
  have harm : armCommand P b = b.armEffects.withResult .ok := by rw [armCommand, hok]
  refine hwRun_of_still (fun m => hwStep_armCommand hok ?_) n
  have hsample : (inp m).line b.cfg.pin = b.cfg.edge.active := by rw [Inputs.line_eq, hline m, Edge.active_eq]
  simp [harm, Block.armEffects_eq, detStep, hkind, Gd.running, Ud.running, gpioStep_waitIdle, hsample]

section Fire

variable {P : Params} {inp : Nat → Inputs} {b : Block}

/-- Whether a detector fires in cycle `m` of a run (R131). -/
def firesAt (P : Params) (inp : Nat → Inputs) (b : Block) (m : Nat) : Bool :=
  (detStep P (inp m) (hwRun P inp m b)).fired

theorem firesAt_iff_gpio (hu : b.ud.running = false) {m : Nat} : firesAt P inp b m = true ↔
    (hwRun P inp m b).gd.st ≠ .done ∧ (hwRun P inp (m + 1) b).gd.st = .done :=
  detStep_fired_iff_gpio (hwRun_ud_not_running hu m)

theorem firesAt_iff_uart (hg : b.gd.running = false) {m : Nat} : firesAt P inp b m = true ↔
    (hwRun P inp m b).ud.st ≠ .done ∧ (hwRun P inp (m + 1) b).ud.st = .done :=
  detStep_fired_iff_uart (hwRun_gd_not_running hg m)

theorem not_firesAt_of_gpio (hu : b.ud.running = false) {m : Nat} (h : (hwRun P inp (m + 1) b).gd.st ≠ .done) :
    firesAt P inp b m = false :=
  Bool.eq_false_iff.mpr fun hf => h ((firesAt_iff_gpio hu).mp hf).2

theorem not_firesAt_of_uart (hg : b.gd.running = false) {m : Nat} (h : (hwRun P inp (m + 1) b).ud.st ≠ .done) :
    firesAt P inp b m = false :=
  Bool.eq_false_iff.mpr fun hf => h ((firesAt_iff_uart hg).mp hf).2

/-- FIRED is set after a run exactly if it was set before or a detector fired in the run (R131, R172). -/
theorem hwRun_fired {n : Nat} :
    (hwRun P inp n b).fired = true ↔ b.fired = true ∨ ∃ m < n, firesAt P inp b m = true := by
  induction n with
  | zero => simp
  | succ n ih =>
    rw [hwRun_succ, hwStep_fired, Bool.or_eq_true, ih, or_assoc]
    simp only [Nat.lt_succ_iff_lt_or_eq, or_and_right, exists_or, exists_eq_left, firesAt]

theorem hwRun_not_fired {n : Nat} (h : b.fired = false) (hno : ∀ m < n, firesAt P inp b m = false) :
    (hwRun P inp n b).fired = false := by
  refine Bool.eq_false_iff.mpr fun hf => ?_
  rcases hwRun_fired.mp hf with hf | ⟨m, hm, hf⟩
  · simp [h] at hf
  · simp [hno m hm] at hf

/-- Until a detector fires, a waiting generator waits on (R166). -/
theorem hwRun_waits {n : Nat} (hwait : b.pg.st = .wait) (hrel : b.release = false)
    (hno : ∀ m < n, firesAt P inp b m = false) :
    (hwRun P inp n b).pg = b.pg ∧ (hwRun P inp n b).q = b.q ∧ (hwRun P inp n b).release = false := by
  induction n with
  | zero => exact ⟨rfl, rfl, hrel⟩
  | succ n ih =>
    obtain ⟨hpg, hq, hr⟩ := ih fun m hm => hno m (hm.trans n.lt_succ_self)
    rw [hwRun_succ, hwStep_of_not_fired (hpg ▸ hwait) hr (hno n n.lt_succ_self)]
    exact ⟨hpg, hq, hr⟩

/-- The first fire sets RELEASE after its cycle; the next cycle consumes it and starts the sequence, and nothing sets it
again (R131, R166, R172). -/
theorem hwRun_of_first_fire {m : Nat} (hwait : b.pg.st = .wait) (hrel : b.release = false)
    (hno : ∀ k < m, firesAt P inp b k = false) (hfire : firesAt P inp b m = true)
    (hnext : firesAt P inp b (m + 1) = false) :
    (hwRun P inp (m + 1) b).release = true ∧ (hwRun P inp (m + 1) b).pg = b.pg ∧
      ((hwRun P inp (m + 2) b).pg, (hwRun P inp (m + 2) b).q) = startSequence P b.pg b.q ∧
      (hwRun P inp (m + 2) b).release = false := by
  obtain ⟨hpg, hq, hr⟩ := hwRun_waits hwait hrel hno
  have hpg' : (hwRun P inp (m + 1) b).pg = b.pg := by simp [hwRun_succ, hpg, hr, pgStep, hwait]
  have hq' : (hwRun P inp (m + 1) b).q = b.q := by simp [hwRun_succ, hpg, hq, hr, pgStep, hwait]
  have hr' : (hwRun P inp (m + 1) b).release = true := by
    rw [hwRun_succ, hwStep_release, show (detStep P (inp m) (hwRun P inp m b)).fired = true from hfire, Bool.or_true]
  have hno' : (detStep P (inp (m + 1)) (hwRun P inp (m + 1) b)).fired = false := hnext
  refine ⟨hr', hpg', ?_, ?_⟩
  · rw [hwRun_succ P inp (m + 1), hwStep_pg, hwStep_q, hpg', hq', hr']
    simp [pgStep, hwait]
  · rw [hwRun_succ P inp (m + 1), hwStep_release, hno', hr']
    simp [consumes, hpg', hr', hwait]

end Fire

/-! ### The pause before the first pulse (R165, R167) -/

/-- A pause counts its cycles down and then begins the pulses (R167). -/
theorem hwRun_of_pause {P : Params} {inp : Nat → Inputs} {b : Block} {n : Nat}
    (hst : (hwRun P inp n b).pg.st = .pause) :
    ∀ t < (hwRun P inp n b).pg.cnt.toNat, (hwRun P inp (n + t) b).pg =
      { (hwRun P inp n b).pg with cnt := (hwRun P inp n b).pg.cnt - BitVec.ofNat 32 t } := by
  intro t
  induction t with
  | zero => simp
  | succ t ih =>
    intro ht
    have hpg := ih (by omega)
    have hcnt : (hwRun P inp n b).pg.cnt - BitVec.ofNat 32 t - 1 ≠ 0 := by bv_omega
    have hsub : (hwRun P inp n b).pg.cnt - BitVec.ofNat 32 t - 1 =
        (hwRun P inp n b).pg.cnt - BitVec.ofNat 32 (t + 1) := by bv_omega
    rw [← Nat.add_assoc, hwRun_succ, hwStep_pg, hpg]
    simp only [pgStep, hst]
    rw [if_neg hcnt, hsub]

/-- The output after StartSequence with pause `p`: inactive for `p` cycles, then active if there is a pulse (R165). -/
theorem hwRun_of_started {P : Params} {inp : Nat → Inputs} {b : Block} {n : Nat} {pg : Pg} {p c w g : Word}
    (h : (hwRun P inp n b).pg = (startSequence P pg [p, c, w, g]).1) :
    (∀ t < p.toNat, (hwRun P inp (n + t) b).active = false) ∧
      (c ≠ 0xFFFFFFFF → (hwRun P inp (n + p.toNat) b).active = true) := by
  have hreps (hc : c ≠ 0xFFFFFFFF) : 0 < (c + 1).toNat := by bv_omega
  rw [startSequence_four] at h
  simp only at h
  by_cases hp : 0 < p.toNat
  · rw [if_pos hp] at h
    have hpause := hwRun_of_pause (P := P) (inp := inp) (b := b) (n := n) (by rw [h])
    simp only [h] at hpause
    refine ⟨fun t ht => by simp [Block.active, hpause t ht], fun hc => ?_⟩
    have hlast := hpause (p.toNat - 1) (by omega)
    have hcnt : p - BitVec.ofNat 32 (p.toNat - 1) - 1 = 0 := by bv_omega
    have hn : n + p.toNat = n + (p.toNat - 1) + 1 := by omega
    rw [Block.active, hn, hwRun_succ, hwStep_pg, hlast]
    simp only [pgStep]
    rw [if_pos hcnt, Pg.beginPulses, if_pos (hreps hc)]
    rfl
  · rw [if_neg hp] at h
    have hp0 : p.toNat = 0 := by omega
    refine ⟨fun t ht => absurd ht (by omega), fun hc => ?_⟩
    rw [hp0, Nat.add_zero, Block.active, h, Pg.beginPulses, if_pos (hreps hc)]
    rfl

/-! ### The GPIO detector's debounce (R134, R135) -/

/-- The detector has counted `n` active samples in a row: none in G_WAIT_ACTIVE, GD.k of them in G_QUAL (R134). -/
def Gd.Counted (n : Nat) (gd : Gd) : Prop :=
  (gd.st = .waitActive ∧ n = 0) ∨ (gd.st = .qual ∧ 1 ≤ n ∧ gd.k = BitVec.ofNat 17 n)

theorem Gd.Counted.ne_done {n : Nat} {gd : Gd} (h : gd.Counted n) : gd.st ≠ .done := by
  rcases h with ⟨h, _⟩ | ⟨h, _⟩ <;> simp [h]

section Gpio

variable {P : Params} {edge : Edge} {s : Bool} {gd : Gd} {n : Nat}

/-- An idle sample starts the count anew (R134). -/
theorem gpioStep_counted_idle (h : gd.Counted n) (hs : s ≠ edge.active) :
    (gpioStep P edge s gd).1.Counted 0 := by
  rcases h with ⟨hst, _⟩ | ⟨hst, _⟩ <;> simp [gpioStep, hst, hs, Gd.Counted]

/-- An active sample is counted, short of P_DEBOUNCE; GD.k may wrap only where P_DEBOUNCE has more than its 17 bits
(R134). -/
theorem gpioStep_counted_active (h : gd.Counted n) (hs : s = edge.active) (hn : n + 1 < P.debounce) :
    (gpioStep P edge s gd).1.Counted (n + 1) := by
  rcases h with ⟨hst, rfl⟩ | ⟨hst, _, hk⟩
  · have h1 : P.debounce ≠ 1 := by omega
    simp [gpioStep, hst, hs, h1, Gd.Counted]
  · have hsucc : gd.k + 1 = BitVec.ofNat 17 (n + 1) := by simp [hk, BitVec.ofNat_add]
    have hle : (BitVec.ofNat 17 (n + 1)).toNat ≠ P.debounce := by
      have hmod := Nat.mod_le (n + 1) (2 ^ 17)
      rw [BitVec.toNat_ofNat]
      omega
    simp only [gpioStep, hst, if_pos hs, hsucc, if_neg hle]
    exact .inr ⟨rfl, by omega, rfl⟩

/-- The P_DEBOUNCE-th active sample fires (R134). -/
theorem gpioStep_counted_last (h : gd.Counted n) (hs : s = edge.active) (hn : n + 1 = P.debounce)
    (hP : P.debounce < 2 ^ 17) : (gpioStep P edge s gd).1.st = .done := by
  rcases h with ⟨hst, rfl⟩ | ⟨hst, _, hk⟩
  · simp [gpioStep, hst, hs, ← hn]
  · have hsucc : gd.k + 1 = BitVec.ofNat 17 (n + 1) := by simp [hk, BitVec.ofNat_add]
    have heq : (BitVec.ofNat 17 (n + 1)).toNat = P.debounce := by
      rw [BitVec.toNat_ofNat, hn, Nat.mod_eq_of_lt hP]
    simp only [gpioStep, hst, if_pos hs, hsucc, if_pos heq]

end Gpio

/-- Before sample `n` the detector has counted the active samples just before it, all of them from `lo` on. -/
def Gd.Tracks (P : Params) (active : Bool) (sample : Nat → Bool) (lo n : Nat) (gd : Gd) : Prop :=
  ∃ k, gd.Counted k ∧ k < P.debounce ∧ lo + k ≤ n ∧ ∀ t, n ≤ t + k → t < n → sample t = active

section GpioRun

variable {P : Params} {edge : Edge} {sample : Nat → Bool} {lo n : Nat} {gd : Gd}

theorem Gd.Tracks.ne_done {active : Bool} (h : gd.Tracks P active sample lo n) : gd.st ≠ .done := by
  obtain ⟨_, hcount, _⟩ := h
  exact hcount.ne_done

theorem Gd.tracks_of_waitActive {active : Bool} (h : gd.st = .waitActive) (hP : 1 ≤ P.debounce) (hn : lo ≤ n) :
    gd.Tracks P active sample lo n :=
  ⟨0, .inl ⟨h, rfl⟩, hP, hn, fun _ _ _ => by omega⟩

/-- Where the P_DEBOUNCE samples up to this one are not all active, the detector counts on (R134, R135 item 2). -/
theorem gpioStep_tracks (h : gd.Tracks P edge.active sample lo n)
    (hshort : ∀ m, lo ≤ m → m + P.debounce = n + 1 → ∃ j < P.debounce, sample (m + j) ≠ edge.active) :
    (gpioStep P edge (sample n) gd).1.Tracks P edge.active sample lo (n + 1) := by
  obtain ⟨k, hcount, hk, hlo, hactive⟩ := h
  by_cases hs : sample n = edge.active
  · have hactive' : ∀ t, n + 1 ≤ t + (k + 1) → t < n + 1 → sample t = edge.active := fun t hle hlt => by
      rcases Nat.lt_succ_iff_lt_or_eq.mp hlt with hlt | rfl
      · exact hactive t (by omega) hlt
      · exact hs
    have hlast : k + 1 ≠ P.debounce := fun heq => by
      obtain ⟨j, hj, hidle⟩ := hshort (n - k) (by omega) (by omega)
      exact hidle (hactive' _ (by omega) (by omega))
    have hk' : k + 1 < P.debounce := by omega
    exact ⟨k + 1, gpioStep_counted_active hcount hs hk', hk', by omega, hactive'⟩
  · exact ⟨0, gpioStep_counted_idle hcount hs, by omega, by omega, fun _ _ _ => by omega⟩

variable {inp : Nat → Inputs} {b : Block}

/-- The level the GPIO detector reads in each cycle of a run (R134). -/
def gpioSample (inp : Nat → Inputs) (b : Block) (m : Nat) : Bool := (inp m).line b.lat.pin

/-- In a run the GPIO detector takes its step in every cycle, on the sample of that cycle (R130, R134). -/
theorem hwRun_gd_succ (P : Params) (inp : Nat → Inputs) (n : Nat) (b : Block) : (hwRun P inp (n + 1) b).gd =
    (gpioStep P b.lat.edge (gpioSample inp b n) (hwRun P inp n b).gd).1 := by
  rw [hwRun_succ, hwStep_gd, detStep_gd, hwRun_lat]
  split
  · rfl
  · next hrun => rw [gpioStep_of_not_running (Bool.eq_false_iff.mpr hrun)]

theorem hwRun_gd_done {m : Nat} (h : (hwRun P inp m b).gd.st = .done) (hmn : m ≤ n) :
    (hwRun P inp n b).gd.st = .done := by
  induction n, hmn using Nat.le_induction with
  | base => exact h
  | succ n _ ih => rw [hwRun_gd_succ, gpioStep_of_not_running (Gd.running_of_done ih), ih]

/-- The line held active keeps the detector in G_WAIT_IDLE (R135 item 1). -/
theorem hwRun_gd_waitIdle (h : b.gd.st = .waitIdle) (hactive : ∀ m < n, gpioSample inp b m = b.lat.edge.active) :
    (hwRun P inp n b).gd.st = .waitIdle := by
  induction n with
  | zero => exact h
  | succ n ih =>
    have hst := ih fun m hm => hactive m (hm.trans n.lt_succ_self)
    rw [hwRun_gd_succ, gpioStep_waitIdle hst, if_pos (hactive n n.lt_succ_self)]

theorem hwRun_gd_leaves_waitIdle (h : (hwRun P inp n b).gd.st = .waitIdle)
    (hidle : gpioSample inp b n ≠ b.lat.edge.active) : (hwRun P inp (n + 1) b).gd.st = .waitActive := by
  rw [hwRun_gd_succ, gpioStep_waitIdle h, if_neg hidle]

/-- Pulses shorter than P_DEBOUNCE leave the detector counting (R135 item 2). -/
theorem hwRun_gd_tracks {start : Nat} (hn : start ≤ n)
    (h : (hwRun P inp start b).gd.Tracks P b.lat.edge.active (gpioSample inp b) lo start)
    (hshort : ∀ m, lo ≤ m → m + P.debounce ≤ n → ∃ j < P.debounce, gpioSample inp b (m + j) ≠ b.lat.edge.active) :
    (hwRun P inp n b).gd.Tracks P b.lat.edge.active (gpioSample inp b) lo n := by
  induction n, hn using Nat.le_induction with
  | base => exact h
  | succ n _ ih =>
    rw [hwRun_gd_succ]
    exact gpioStep_tracks (ih fun m hm hle => hshort m hm (by omega)) fun m hm heq => hshort m hm (by omega)

/-- After an idle sample the detector has counted none. -/
theorem Gd.Tracks.counted_zero {active : Bool} (h : gd.Tracks P active sample lo n)
    (hidle : n = 0 ∨ sample (n - 1) ≠ active) : gd.Counted 0 := by
  obtain ⟨k, hcount, _, hlo, hactive⟩ := h
  have hk : k = 0 := by
    by_contra hk
    rcases hidle with rfl | hidle
    · omega
    · exact hidle (hactive (n - 1) (by omega) (by omega))
  exact hk ▸ hcount

/-- From a count of none, P_DEBOUNCE active samples are counted one by one, and the last one fires (R134). -/
theorem hwRun_gd_counts {e : Nat} (hP : P.Legal) (h : (hwRun P inp e b).gd.Counted 0)
    (hactive : ∀ j < P.debounce, gpioSample inp b (e + j) = b.lat.edge.active) :
    (∀ j < P.debounce, (hwRun P inp (e + j) b).gd.Counted j) ∧ (hwRun P inp (e + P.debounce) b).gd.st = .done := by
  have hlo := hP.debounce_pos
  have hhi := hP.debounce_le
  have hcount : ∀ j < P.debounce, (hwRun P inp (e + j) b).gd.Counted j := fun j => by
    induction j with
    | zero => exact fun _ => h
    | succ j ih =>
      intro hj
      rw [← Nat.add_assoc, hwRun_gd_succ]
      exact gpioStep_counted_active (ih (by omega)) (hactive j (by omega)) hj
  refine ⟨hcount, ?_⟩
  have he : e + P.debounce = e + (P.debounce - 1) + 1 := by omega
  rw [he, hwRun_gd_succ]
  exact gpioStep_counted_last (hcount _ (by omega)) (hactive _ (by omega)) (by omega) (by omega)

end GpioRun

/-- Settles O30: a detector that has left G_WAIT_IDLE keeps counting, and neither state is G_DONE. -/
theorem shortGpioPulseNeverFires : Obligations.ShortGpioPulseNeverFires := by
  intro P inp b hst hu hfired hshort n
  have hshort' (m : Nat) : ∃ j < P.debounce, gpioSample inp b (m + j) ≠ b.lat.edge.active := by
    rw [Edge.active_eq]
    exact hshort m
  have hP : 1 ≤ P.debounce := by
    obtain ⟨_, hj, _⟩ := hshort 0
    omega
  have hwaits (m : Nat) : (hwRun P inp m b).gd.st = .waitIdle ∨
      (hwRun P inp m b).gd.Tracks P b.lat.edge.active (gpioSample inp b) 0 m := by
    induction m with
    | zero => exact hst.imp_right fun h => Gd.tracks_of_waitActive h hP le_rfl
    | succ m ih =>
      rcases ih with hidle | htracks
      · by_cases hs : gpioSample inp b m = b.lat.edge.active
        · exact .inl (by rw [hwRun_gd_succ, gpioStep_waitIdle hidle, if_pos hs])
        · exact .inr (Gd.tracks_of_waitActive (hwRun_gd_leaves_waitIdle hidle hs) hP (Nat.zero_le _))
      · exact .inr (hwRun_gd_tracks m.le_succ htracks fun k _ _ => hshort' k)
  refine hwRun_not_fired hfired fun m _ => not_firesAt_of_gpio hu ?_
  rcases hwaits (m + 1) with hidle | htracks
  · simp [hidle]
  · exact htracks.ne_done

/-- Where the detector stands when its count begins: in G_WAIT_ACTIVE in cycle 0, or in G_WAIT_IDLE with its first idle
sample in cycle `i` (R134). -/
def StartsCounting (inp : Nat → Inputs) (b : Block) (i : Nat) : Prop :=
  (b.gd.st = .waitActive ∧ i = 0) ∨ (b.gd.st = .waitIdle ∧ (∀ m < i, gpioSample inp b m = b.lat.edge.active) ∧
    gpioSample inp b i ≠ b.lat.edge.active)

section GpioEdge

variable {P : Params} {inp : Nat → Inputs} {b : Block} {i e : Nat}

/-- Up to the edge in cycle `e` the detector is not done, and there it has counted none (R135 items 1 and 2). -/
theorem hwRun_gd_before_edge (hD : 1 ≤ P.debounce) (hstart : StartsCounting inp b i) (hie : i ≤ e)
    (hshort : ∀ m, i ≤ m → m + P.debounce ≤ e → ∃ j < P.debounce, gpioSample inp b (m + j) ≠ b.lat.edge.active)
    (hidle : e = 0 ∨ gpioSample inp b (e - 1) ≠ b.lat.edge.active)
    (hedge : gpioSample inp b e = b.lat.edge.active) :
    (∀ m ≤ e, (hwRun P inp m b).gd.st ≠ .done) ∧ (hwRun P inp e b).gd.Counted 0 := by
  obtain ⟨start, hstart_le, hwaits, htracks⟩ : ∃ start ≤ e, (∀ m < start, (hwRun P inp m b).gd.st = .waitIdle) ∧
      (hwRun P inp start b).gd.Tracks P b.lat.edge.active (gpioSample inp b) i start := by
    rcases hstart with ⟨hst, rfl⟩ | ⟨hst, hbefore, hi⟩
    · exact ⟨0, hie, nofun, Gd.tracks_of_waitActive hst hD le_rfl⟩
    · have hne : i ≠ e := fun heq => hi (heq ▸ hedge)
      have hstay : ∀ m ≤ i, (hwRun P inp m b).gd.st = .waitIdle :=
        fun m hm => hwRun_gd_waitIdle hst fun k hk => hbefore k (hk.trans_le hm)
      exact ⟨i + 1, by omega, fun m hm => hstay m (by omega),
        Gd.tracks_of_waitActive (hwRun_gd_leaves_waitIdle (hstay i le_rfl) hi) hD i.le_succ⟩
  have hcounts : ∀ m, start ≤ m → m ≤ e →
      (hwRun P inp m b).gd.Tracks P b.lat.edge.active (gpioSample inp b) i m :=
    fun m hm hme => hwRun_gd_tracks hm htracks fun k hk hle => hshort k hk (hle.trans hme)
  refine ⟨fun m hm => ?_, (hcounts e hstart_le le_rfl).counted_zero hidle⟩
  rcases lt_or_ge m start with hlt | hge
  · simp [hwaits m hlt]
  · exact (hcounts m hge hm).ne_done

/-- The detector is done after the P_DEBOUNCE-th active sample from the edge on, and not before (R134, R136). -/
theorem hwRun_gd_done_after_edge (hP : P.Legal) (hstart : StartsCounting inp b i) (hie : i ≤ e)
    (hshort : ∀ m, i ≤ m → m + P.debounce ≤ e → ∃ j < P.debounce, gpioSample inp b (m + j) ≠ b.lat.edge.active)
    (hidle : e = 0 ∨ gpioSample inp b (e - 1) ≠ b.lat.edge.active)
    (hactive : ∀ j < P.debounce, gpioSample inp b (e + j) = b.lat.edge.active) :
    (∀ m < e + P.debounce, (hwRun P inp m b).gd.st ≠ .done) ∧ (hwRun P inp (e + P.debounce) b).gd.st = .done := by
  have hD := hP.debounce_pos
  obtain ⟨hbefore, hzero⟩ := hwRun_gd_before_edge (P := P) hD hstart hie hshort hidle (hactive 0 hD)
  obtain ⟨hcount, hdone⟩ := hwRun_gd_counts hP hzero hactive
  refine ⟨fun m hm => ?_, hdone⟩
  rcases le_or_gt m e with hle | hgt
  · exact hbefore m hle
  · have hj := (hcount (m - e) (by omega)).ne_done
    rwa [Nat.add_sub_cancel' hgt.le] at hj

/-- The output around the first fire, in cycle `f`: inactive up to cycle f + 1 + P, and then active if there is a pulse
(R136, R165, R166). -/
theorem hwRun_active_of_first_fire {f : Nat} {p c w g : Word} (hwait : b.pg.st = .wait) (hrel : b.release = false)
    (hq : b.q = [p, c, w, g]) (hno : ∀ k < f, firesAt P inp b k = false) (hfire : firesAt P inp b f = true)
    (hnext : firesAt P inp b (f + 1) = false) :
    (∀ m < f + 2 + p.toNat, (hwRun P inp m b).active = false) ∧
      (c ≠ 0xFFFFFFFF → (hwRun P inp (f + 2 + p.toNat) b).active = true) := by
  obtain ⟨_, hpg, hseq, _⟩ := hwRun_of_first_fire hwait hrel hno hfire hnext
  rw [hq] at hseq
  obtain ⟨hpause, hpulse⟩ := hwRun_of_started (congrArg Prod.fst hseq)
  refine ⟨fun m hm => ?_, hpulse⟩
  rcases lt_or_ge m (f + 2) with hlt | hge
  · have hstill : (hwRun P inp m b).pg = b.pg := by
      rcases Nat.lt_succ_iff_lt_or_eq.mp hlt with hlt | rfl
      · exact (hwRun_waits hwait hrel fun k hk => hno k (by omega)).1
      · exact hpg
    simp [Block.active, hstill, hwait]
  · have ht := hpause (m - (f + 2)) (by omega)
    rwa [Nat.add_sub_cancel' hge] at ht

end GpioEdge

/-- Settles O29: the detector is done after its P_DEBOUNCE-th active sample, so it fires in that cycle first; the rest
is what a first fire does and what the sequence then does. -/
theorem gpioLatency : Obligations.GpioLatency := by
  intro P inp b p c w g i e hP hu hfired hrel hwait hq sample active hstart hie hshort hidle hactive
  have hD := hP.debounce_pos
  obtain ⟨hbefore, hdone⟩ := hwRun_gd_done_after_edge (inp := inp) hP hstart hie hshort hidle hactive
  obtain ⟨f, hf⟩ : ∃ f, e + P.debounce = f + 1 := ⟨e + P.debounce - 1, by omega⟩
  rw [hf] at hbefore hdone ⊢
  have hno : ∀ m < f, firesAt P inp b m = false :=
    fun m hm => not_firesAt_of_gpio hu (hbefore (m + 1) (Nat.succ_lt_succ hm))
  have hfire : firesAt P inp b f = true := (firesAt_iff_gpio hu).mpr ⟨hbefore f f.lt_succ_self, hdone⟩
  have hnext : firesAt P inp b (f + 1) = false :=
    Bool.eq_false_iff.mpr fun h => ((firesAt_iff_gpio hu).mp h).1 hdone
  obtain ⟨hset, _, _, hconsumed⟩ := hwRun_of_first_fire hwait hrel hno hfire hnext
  exact ⟨fun m hm => hwRun_not_fired hfired fun k hk => hno k (by omega),
    fun m hm => ⟨hwRun_fired.mpr (.inr ⟨f, hm, hfire⟩), hwRun_gd_done hdone hm⟩, hset, hconsumed,
    hwRun_active_of_first_fire hwait hrel hq hno hfire hnext⟩

/-! ### The UART detector's divider (R141) -/

/-- The detector with another count of its divider. -/
def Ud.withTc (ud : Ud) (tc : Word) : Ud := { ud with tc := tc }

@[simp] theorem Ud.withTc_st (ud : Ud) (tc : Word) : (ud.withTc tc).st = ud.st := rfl
@[simp] theorem Ud.withTc_sh (ud : Ud) (tc : Word) : (ud.withTc tc).sh = ud.sh := rfl
@[simp] theorem Ud.withTc_tc (ud : Ud) (tc : Word) : (ud.withTc tc).tc = tc := rfl
@[simp] theorem Ud.withTc_running (ud : Ud) (tc : Word) : (ud.withTc tc).running = ud.running := rfl
@[simp] theorem Ud.withTc_withTc (ud : Ud) (tc tc' : Word) : (ud.withTc tc).withTc tc' = ud.withTc tc' := rfl

theorem uartTick_of_not_running {byte : Byte} {s : Bool} {ud : Ud} (h : ud.running = false) :
    uartTick byte s ud = (ud, false) := by
  unfold Ud.running at h
  unfold uartTick
  cases hst : ud.st <;> simp_all

/-- A tick neither reads nor writes the divider's count (R141, R142). -/
theorem uartTick_withTc (byte : Byte) (s : Bool) (ud : Ud) (tc : Word) :
    (uartTick byte s (ud.withTc tc)).1 = (uartTick byte s ud).1.withTc tc := by
  unfold uartTick Ud.withTc
  cases hst : ud.st <;> simp only
  all_goals (repeat' split)
  all_goals simp_all

/-- The divider counts on, and a tick comes where it stood at 0 (R141). -/
theorem uartStep_eq (lat : Lat) (s : Bool) (ud : Ud) : (uartStep lat s ud).1 =
    (if ud.tc = 0 then (uartTick lat.byte s ud).1 else ud).withTc (nextTc ud.tc lat.div) := by
  unfold uartStep
  split
  · exact uartTick_withTc ..
  · rfl

/-- The divider's count is the number of cycles modulo the divider (R141). -/
theorem nextTc_ofNat {div : Word} (h : div ≠ 0) (m : Nat) :
    nextTc (BitVec.ofNat 32 (m % div.toNat)) div = BitVec.ofNat 32 ((m + 1) % div.toNat) := by
  have hpos : 0 < div.toNat := by bv_omega
  have hlt : m % div.toNat < 2 ^ 32 := (Nat.mod_lt m hpos).trans div.isLt
  rw [nextTc, if_neg h, BitVec.toNat_ofNat, Nat.mod_eq_of_lt hlt, Nat.mod_add_mod]

theorem ofNat_mod_eq_zero {div : Word} (h : div ≠ 0) (m : Nat) :
    BitVec.ofNat 32 (m % div.toNat) = 0 ↔ m % div.toNat = 0 := by
  have hpos : 0 < div.toNat := by bv_omega
  have hlt : m % div.toNat < 2 ^ 32 := (Nat.mod_lt m hpos).trans div.isLt
  rw [← BitVec.toNat_inj, BitVec.toNat_ofNat, Nat.mod_eq_of_lt hlt]
  rfl

/-- Of the cycles 0 to m − 1, `m ⌈/⌉ d` are multiples of `d`. -/
theorem succ_ceilDiv {d : Nat} (hd : 0 < d) (m : Nat) :
    (m + 1) ⌈/⌉ d = m ⌈/⌉ d + if m % d = 0 then 1 else 0 := by
  have hsucc := Nat.succ_div (a := m + d - 1) (b := d)
  have hm : m + d - 1 + 1 = m + d := by omega
  simp only [hm, Nat.dvd_iff_mod_eq_zero, Nat.add_mod_right] at hsucc
  rw [Nat.ceilDiv_eq_add_pred_div, Nat.ceilDiv_eq_add_pred_div, Nat.add_right_comm, Nat.add_sub_cancel, hsucc]

theorem mul_ceilDiv {d : Nat} (hd : 0 < d) (n : Nat) : (n * d) ⌈/⌉ d = n := by
  rw [mul_comm, ← smul_eq_mul, smul_ceilDiv hd]

theorem mul_add_one_ceilDiv {d : Nat} (hd : 0 < d) (n : Nat) : (n * d + 1) ⌈/⌉ d = n + 1 := by
  rw [succ_ceilDiv hd, mul_ceilDiv hd, if_pos (Nat.mul_mod_left n d)]

theorem ceilDiv_le_of_le_mul {d n m : Nat} (hd : 0 < d) (h : m ≤ n * d) : m ⌈/⌉ d ≤ n :=
  (ceilDiv_le_iff_le_mul hd).mpr (mul_comm n d ▸ h)

theorem ceilDiv_pos {d m : Nat} (hd : 0 < d) (h : 1 ≤ m) : 1 ≤ m ⌈/⌉ d := by
  by_contra hlt
  have hm := (ceilDiv_le_iff_le_mul (c := 0) hd).mp (by omega : m ⌈/⌉ d ≤ 0)
  omega

/-! ### A run of cycles as a run of ticks (R141, R142) -/

/-- The detector `n` ticks later, tick `j` seeing the line at `s j` (R142). -/
def uartTicks (byte : Byte) (s : Nat → Bool) : Nat → Ud → Ud
  | 0, ud => ud
  | n + 1, ud => (uartTick byte (s n) (uartTicks byte s n ud)).1

theorem uartTicks_succ (byte : Byte) (s : Nat → Bool) (n : Nat) (ud : Ud) :
    uartTicks byte s (n + 1) ud = (uartTick byte (s n) (uartTicks byte s n ud)).1 := rfl

/-- The level of `uart_rx` at tick `j` of a run that begins with tick 0, in cycle j × d (R141). -/
def uartSample (inp : Nat → Inputs) (d : Nat) (j : Nat) : Bool := (inp (j * d)).uartRx

section UartRun

variable {P : Params} {inp : Nat → Inputs} {b : Block}

theorem hwRun_ud_succ (P : Params) (inp : Nat → Inputs) (n : Nat) (b : Block) : (hwRun P inp (n + 1) b).ud =
    if (hwRun P inp n b).ud.running = true then (uartStep b.lat (inp n).uartRx (hwRun P inp n b).ud).1
    else (hwRun P inp n b).ud := by
  rw [hwRun_succ, hwStep_ud, detStep_ud, hwRun_lat]

/-- While the detector runs its divider counts the cycles (R141). -/
theorem hwRun_ud_tc (htc : b.ud.tc = 0) (hdiv : b.lat.div ≠ 0) {m : Nat} (hrun : (hwRun P inp m b).ud.running = true) :
    (hwRun P inp m b).ud.tc = BitVec.ofNat 32 (m % b.lat.div.toNat) := by
  induction m with
  | zero => simpa using htc
  | succ m ih =>
    have hbefore : (hwRun P inp m b).ud.running = true := detStep_ud_running (P := P) hrun
    rw [hwRun_ud_succ, if_pos hbefore, uartStep_eq, Ud.withTc_tc, ih hbefore, nextTc_ofNat hdiv]

/-- Ticks fall in the cycles that are multiples of the divider (R141). -/
theorem hwRun_ud_tick_iff (htc : b.ud.tc = 0) (hdiv : b.lat.div ≠ 0) {m : Nat}
    (hrun : (hwRun P inp m b).ud.running = true) : (hwRun P inp m b).ud.tc = 0 ↔ m % b.lat.div.toNat = 0 := by
  rw [hwRun_ud_tc htc hdiv hrun, ofNat_mod_eq_zero hdiv]

/-- A run of cycles gives the detector its ticks, one in each multiple of the divider, and else changes the divider's
count alone (R141, R142). -/
theorem hwRun_ud_withTc (htc : b.ud.tc = 0) (hdiv : b.lat.div ≠ 0) (m : Nat) : (hwRun P inp m b).ud.withTc 0 =
    uartTicks b.lat.byte (uartSample inp b.lat.div.toNat) (m ⌈/⌉ b.lat.div.toNat) b.ud := by
  have hd : 0 < b.lat.div.toNat := by bv_omega
  induction m with
  | zero => rw [zero_ceilDiv, uartTicks, hwRun_zero, ← htc]; rfl
  | succ m ih =>
    rw [succ_ceilDiv hd, hwRun_ud_succ]
    cases hrun : (hwRun P inp m b).ud.running
    · rw [if_neg Bool.false_ne_true]
      split
      · rw [uartTicks_succ, ← ih, uartTick_of_not_running ((Ud.withTc_running ..).trans hrun)]
      · exact ih
    · rw [if_pos rfl, uartStep_eq, Ud.withTc_withTc]
      simp only [hwRun_ud_tick_iff htc hdiv hrun]
      split
      · next htick =>
        have hm : m ⌈/⌉ b.lat.div.toNat * b.lat.div.toNat = m := by
          obtain ⟨n, hn⟩ := Nat.dvd_of_mod_eq_zero htick
          rw [hn, mul_comm b.lat.div.toNat, mul_ceilDiv hd]
        rw [uartTicks_succ, ← ih, uartTick_withTc, uartSample, hm]
      · exact ih

theorem hwRun_ud_st (htc : b.ud.tc = 0) (hdiv : b.lat.div ≠ 0) (m : Nat) : (hwRun P inp m b).ud.st =
    (uartTicks b.lat.byte (uartSample inp b.lat.div.toNat) (m ⌈/⌉ b.lat.div.toNat) b.ud).st := by
  rw [← hwRun_ud_withTc htc hdiv, Ud.withTc_st]

end UartRun

/-! ### The UART detector, tick by tick (R142 to R144) -/

section Tick

variable {byte : Byte} {s : Bool} {ud : Ud}

theorem uartTick_waitIdle (h : ud.st = .waitIdle) :
    (uartTick byte s ud).1 = { ud with st := if s then .waitStart else .waitIdle } := by
  cases ud
  cases h
  cases s <;> rfl

theorem uartTick_waitStart (h : ud.st = .waitStart) :
    (uartTick byte s ud).1 = if s then ud else { ud with st := .start, k := 0 } := by
  cases s <;> simp [uartTick, h]

/-- Between its samples the detector counts the ticks of the bit: 4 in the start bit, 8 in a data bit (R142). -/
theorem uartTick_counts (h : (ud.st = .start ∧ ud.k + 1 ≠ 4) ∨ (ud.st = .data ∧ ud.k + 1 ≠ 8)) :
    (uartTick byte s ud).1 = { ud with k := ud.k + 1 } := by
  rcases h with ⟨hst, hk⟩ | ⟨hst, hk⟩ <;> simp only [uartTick, hst, if_neg hk]

/-- The start bit's sample: high is a false start, low begins the data bits (R142). -/
theorem uartTick_startBit (hst : ud.st = .start) (hk : ud.k + 1 = 4) : (uartTick byte s ud).1 =
    if s then { ud with st := .waitStart, k := 4 } else { ud with st := .data, i := 0, k := 0, sh := 0 } := by
  simp only [uartTick, hst, hk, ↓reduceIte]
  split <;> rfl

/-- A data bit's sample, before the last (R142). -/
theorem uartTick_dataBit (hst : ud.st = .data) (hk : ud.k + 1 = 8) (hi : ud.i ≠ 7) :
    (uartTick byte s ud).1 = { ud with k := 0, sh := setBit ud.sh ud.i s, i := ud.i + 1 } := by
  simp only [uartTick, hst, hk, hi, ↓reduceIte]

/-- The last data bit's sample: the byte is compared (R142, R144). -/
theorem uartTick_lastBit (hst : ud.st = .data) (hk : ud.k + 1 = 8) (hi : ud.i = 7) : (uartTick byte s ud).1 =
    { ud with st := if setBit ud.sh ud.i s = byte then .done else .waitIdle, k := 0, sh := setBit ud.sh ud.i s } := by
  simp only [uartTick, hst, hk, hi, ↓reduceIte]
  split <;> rfl

/-- The sample of data bit `i` is bit i of the byte (R143). -/
theorem setBit_getLsbD (sh : Byte) (i : BitVec 3) (s : Bool) {j : Nat} (hj : j < 8) :
    (setBit sh i s).getLsbD j = if j = i.toNat then s else sh.getLsbD j := by
  unfold setBit
  have hi : i.toNat < 8 := i.isLt
  rcases lt_trichotomy j i.toNat with hlt | rfl | hgt
  · simp [hj, hlt, hlt.ne]
  · simp [hi]
  · have hsub : j - i.toNat ≠ 0 := by omega
    simp [hj, hgt.ne', hsub]

end Tick

section Ticks

variable {byte : Byte} {s : Nat → Bool} {ud : Ud} {n : Nat}

/-- U_WAIT_IDLE is kept while the ticks see the line low (R142). -/
theorem uartTicks_waitIdle (h : ud.st = .waitIdle) (hlow : ∀ j < n, s j = false) : uartTicks byte s n ud = ud := by
  induction n with
  | zero => rfl
  | succ n ih =>
    rw [uartTicks_succ, ih fun j hj => hlow j (hj.trans n.lt_succ_self), uartTick_waitIdle h, hlow n n.lt_succ_self,
      if_neg Bool.false_ne_true, ← h]

/-- U_WAIT_START is kept while the ticks see the line high (R142). -/
theorem uartTicks_waitStart (h : ud.st = .waitStart) (hhigh : ∀ j < n, s j = true) : uartTicks byte s n ud = ud := by
  induction n with
  | zero => rfl
  | succ n ih =>
    rw [uartTicks_succ, ih fun j hj => hhigh j (hj.trans n.lt_succ_self), uartTick_waitStart h, hhigh n n.lt_succ_self,
      if_pos rfl]

theorem uartTicks_counting {N : Nat} (hk : (uartTicks byte s n ud).k = 0)
    (hst : ((uartTicks byte s n ud).st = .start ∧ N = 4) ∨ ((uartTicks byte s n ud).st = .data ∧ N = 8)) :
    ∀ r < N, uartTicks byte s (n + r) ud = { uartTicks byte s n ud with k := BitVec.ofNat 4 r } := by
  intro r
  induction r with
  | zero =>
    intro _
    have hk' : (uartTicks byte s n ud).k = BitVec.ofNat 4 0 := hk
    rw [Nat.add_zero, ← hk']
  | succ r ih =>
    intro hr
    rw [← Nat.add_assoc, uartTicks_succ, ih (by omega), uartTick_counts, BitVec.ofNat_add]
    · rfl
    · exact hst.imp (fun h => ⟨h.1, by simp only; bv_omega⟩) fun h => ⟨h.1, by simp only; bv_omega⟩

/-- From T0 on, a tick in U_WAIT_START that sees the line low, the detector is in the start bit for four ticks, and the
fourth samples it (R142). -/
theorem uartTicks_startBit (h : ud.st = .waitStart) (h0 : s 0 = false) :
    (∀ n, 1 ≤ n → n ≤ 4 → (uartTicks byte s n ud).st = .start) ∧ uartTicks byte s 5 ud =
      if s 4 then { ud with st := .waitStart, k := 4 } else { ud with st := .data, i := 0, k := 0, sh := 0 } := by
  have hT0 : uartTicks byte s 1 ud = { ud with st := .start, k := 0 } := by
    rw [uartTicks_succ, uartTicks, uartTick_waitStart h, h0, if_neg Bool.false_ne_true]
  have hcount := uartTicks_counting (byte := byte) (s := s) (ud := ud) (n := 1) (N := 4) (by rw [hT0])
    (.inl ⟨by rw [hT0], rfl⟩)
  rw [hT0] at hcount
  refine ⟨fun n h1 h4 => ?_, ?_⟩
  · have hn := hcount (n - 1) (by omega)
    rw [Nat.add_sub_cancel' h1] at hn
    rw [hn]
  · rw [uartTicks_succ, hcount 3 (by omega), uartTick_startBit rfl rfl]

/-- The detector begins data bit `n`, the bits before it being those of `v` (R142, R143). -/
structure Ud.Received (v : Byte) (n : Nat) (ud : Ud) : Prop where
  data : ud.st = .data
  counted : ud.k = 0
  index : ud.i = BitVec.ofNat 3 n
  bits : ∀ j < n, ud.sh.getLsbD j = v.getLsbD j

variable {v : Byte} {m : Nat}

/-- A data bit takes eight ticks, the detector staying in U_DATA up to the last (R142). -/
theorem uartTicks_dataTicks (h : (uartTicks byte s n ud).Received v m) :
    ∀ r < 8, uartTicks byte s (n + r) ud = { uartTicks byte s n ud with k := BitVec.ofNat 4 r } :=
  uartTicks_counting h.counted (.inr ⟨h.data, rfl⟩)

/-- Sampling data bit `m` gives one more bit of the byte (R143). -/
theorem Ud.Received.setBit (h : ud.Received v m) (hm : m < 8) {j : Nat} (hj : j < m + 1) :
    (setBit ud.sh ud.i (v.getLsbD m)).getLsbD j = v.getLsbD j := by
  have hi : ud.i.toNat = m := by rw [h.index, BitVec.toNat_ofNat, Nat.mod_eq_of_lt hm]
  rw [setBit_getLsbD _ _ _ (by omega), hi]
  split
  · next heq => rw [heq]
  · exact h.bits j (by omega)

theorem uartTicks_received_succ (h : (uartTicks byte s n ud).Received v m) (hm : m < 7)
    (hs : s (n + 7) = v.getLsbD m) : (uartTicks byte s (n + 8) ud).Received v (m + 1) := by
  have hi : (uartTicks byte s n ud).i ≠ 7 := by
    rw [h.index]
    bv_omega
  rw [uartTicks_succ, uartTicks_dataTicks h 7 (by omega),
    uartTick_dataBit (ud := { uartTicks byte s n ud with k := BitVec.ofNat 4 7 }) h.data rfl hi, hs]
  exact ⟨h.data, rfl, by rw [h.index, BitVec.ofNat_add]; rfl, fun j hj => h.setBit (by omega) hj⟩

/-- The eighth bit completes the byte, which is then compared (R144). -/
theorem uartTicks_received_last (h : (uartTicks byte s n ud).Received v 7) (hs : s (n + 7) = v.getLsbD 7) :
    (uartTicks byte s (n + 8) ud).sh = v ∧
      (uartTicks byte s (n + 8) ud).st = if v = byte then .done else .waitIdle := by
  have hv : setBit (uartTicks byte s n ud).sh (uartTicks byte s n ud).i (v.getLsbD 7) = v :=
    BitVec.eq_of_getLsbD_eq fun j hj => h.setBit (by omega) hj
  rw [uartTicks_succ, uartTicks_dataTicks h 7 (by omega),
    uartTick_lastBit (ud := { uartTicks byte s n ud with k := BitVec.ofNat 4 7 }) h.data rfl h.index, hs]
  simp only [hv, and_self]

/-- The ticks of a byte: after tick 4 + 8i the detector has received `i` bits (R142, R143). -/
theorem uartTicks_received (h : ud.st = .waitStart) (h0 : s 0 = false) (h4 : s 4 = false)
    (hbits : ∀ i < 8, s (12 + 8 * i) = v.getLsbD i) :
    ∀ i < 8, (uartTicks byte s (5 + 8 * i) ud).Received v i := by
  intro i
  induction i with
  | zero =>
    intro _
    rw [Nat.mul_zero, Nat.add_zero, (uartTicks_startBit h h0).2, h4]
    exact ⟨rfl, rfl, rfl, nofun⟩
  | succ i ih =>
    intro hi
    have hbit : s (5 + 8 * i + 7) = v.getLsbD i := by rw [← hbits i (by omega)]; congr 1; omega
    exact uartTicks_received_succ (ih (by omega)) (by omega) hbit

/-- Up to tick 68 the detector is not done; that tick completes the byte (R144, R145). -/
theorem uartTicks_byte (h : ud.st = .waitStart) (h0 : s 0 = false) (h4 : s 4 = false)
    (hbits : ∀ i < 8, s (12 + 8 * i) = v.getLsbD i) :
    (∀ n ≤ 68, (uartTicks byte s n ud).st ≠ .done) ∧ (uartTicks byte s 69 ud).sh = v ∧
      (uartTicks byte s 69 ud).st = if v = byte then .done else .waitIdle := by
  have hrec := uartTicks_received (byte := byte) h h0 h4 hbits
  refine ⟨fun n hn => ?_, uartTicks_received_last (hrec 7 (by omega)) (hbits 7 (by omega))⟩
  rcases Nat.eq_zero_or_pos n with rfl | hpos
  · simp [uartTicks, h]
  · rcases le_or_gt n 4 with hle | hgt
    · simp [(uartTicks_startBit h h0).1 n hpos hle]
    · have hi := hrec ((n - 5) / 8) (by omega)
      have ht := uartTicks_dataTicks hi ((n - 5) % 8) (Nat.mod_lt _ (by omega))
      have hn' : 5 + 8 * ((n - 5) / 8) + (n - 5) % 8 = n := by omega
      rw [hn'] at ht
      simp [ht, hi.data]

end Ticks

/-! ### UART detection over a run of cycles (R142 to R147) -/

section UartDetection

variable {P : Params} {inp : Nat → Inputs} {b : Block} {n : Nat}

/-- U_WAIT_IDLE is left in the cycle of the first tick that sees the line high (R142). -/
theorem hwRun_ud_waitIdle (htc : b.ud.tc = 0) (hdiv : b.lat.div ≠ 0) (hst : b.ud.st = .waitIdle)
    (hlow : ∀ j < n, uartSample inp b.lat.div.toNat j = false) (hhigh : uartSample inp b.lat.div.toNat n = true) :
    (∀ m ≤ n * b.lat.div.toNat, (hwRun P inp m b).ud.st = .waitIdle) ∧
      (hwRun P inp (n * b.lat.div.toNat + 1) b).ud.st = .waitStart := by
  have hd : 0 < b.lat.div.toNat := by bv_omega
  refine ⟨fun m hm => ?_, ?_⟩
  · have hticks := ceilDiv_le_of_le_mul hd hm
    rw [hwRun_ud_st htc hdiv, uartTicks_waitIdle hst fun j hj => hlow j (hj.trans_le hticks), hst]
  · rw [hwRun_ud_st htc hdiv, mul_add_one_ceilDiv hd, uartTicks_succ, uartTicks_waitIdle hst hlow,
      uartTick_waitIdle hst, if_pos hhigh]

/-- U_WAIT_START is left in the cycle of the first tick that sees the line low (R142). -/
theorem hwRun_ud_waitStart (htc : b.ud.tc = 0) (hdiv : b.lat.div ≠ 0) (hst : b.ud.st = .waitStart)
    (hhigh : ∀ j < n, uartSample inp b.lat.div.toNat j = true) (hlow : uartSample inp b.lat.div.toNat n = false) :
    (∀ m ≤ n * b.lat.div.toNat, (hwRun P inp m b).ud.st = .waitStart) ∧
      (hwRun P inp (n * b.lat.div.toNat + 1) b).ud.st = .start := by
  have hd : 0 < b.lat.div.toNat := by bv_omega
  refine ⟨fun m hm => ?_, ?_⟩
  · have hticks := ceilDiv_le_of_le_mul hd hm
    rw [hwRun_ud_st htc hdiv, uartTicks_waitStart hst fun j hj => hhigh j (hj.trans_le hticks), hst]
  · rw [hwRun_ud_st htc hdiv, mul_add_one_ceilDiv hd, uartTicks_succ, uartTicks_waitStart hst hhigh,
      uartTick_waitStart hst, hlow, if_neg Bool.false_ne_true]

/-- A start bit that is high again at tick 4 leads back to U_WAIT_START (R142). -/
theorem hwRun_ud_false_start (htc : b.ud.tc = 0) (hdiv : b.lat.div ≠ 0) (hst : b.ud.st = .waitStart)
    (h0 : uartSample inp b.lat.div.toNat 0 = false) (h4 : uartSample inp b.lat.div.toNat 4 = true) :
    (∀ m, 1 ≤ m → m ≤ 4 * b.lat.div.toNat → (hwRun P inp m b).ud.st = .start) ∧
      (hwRun P inp (4 * b.lat.div.toNat + 1) b).ud.st = .waitStart := by
  have hd : 0 < b.lat.div.toNat := by bv_omega
  obtain ⟨hstart, hback⟩ := uartTicks_startBit (byte := b.lat.byte) hst h0
  refine ⟨fun m h1 hm => ?_, ?_⟩
  · rw [hwRun_ud_st htc hdiv, hstart _ (ceilDiv_pos hd h1) (ceilDiv_le_of_le_mul hd hm)]
  · rw [hwRun_ud_st htc hdiv, mul_add_one_ceilDiv hd, hback, h4, if_pos rfl]

/-- A byte `v` received from T0 in cycle 0 on is complete and compared in cycle 68 × d, and the detector is not done
before (R143 to R145). -/
theorem hwRun_ud_byte {v : Byte} (htc : b.ud.tc = 0) (hdiv : b.lat.div ≠ 0) (hst : b.ud.st = .waitStart)
    (h0 : uartSample inp b.lat.div.toNat 0 = false) (h4 : uartSample inp b.lat.div.toNat 4 = false)
    (hbits : ∀ i < 8, uartSample inp b.lat.div.toNat (12 + 8 * i) = v.getLsbD i) :
    (∀ m ≤ 68 * b.lat.div.toNat, (hwRun P inp m b).ud.st ≠ .done) ∧
      (hwRun P inp (68 * b.lat.div.toNat + 1) b).ud.sh = v ∧
      (hwRun P inp (68 * b.lat.div.toNat + 1) b).ud.st = if v = b.lat.byte then .done else .waitIdle := by
  have hd : 0 < b.lat.div.toNat := by bv_omega
  obtain ⟨hbefore, hsh, hend⟩ := uartTicks_byte (byte := b.lat.byte) hst h0 h4 hbits
  have hlast := hwRun_ud_withTc (P := P) (inp := inp) htc hdiv (68 * b.lat.div.toNat + 1)
  rw [mul_add_one_ceilDiv hd] at hlast
  refine ⟨fun m hm => ?_, ?_, ?_⟩
  · rw [hwRun_ud_st htc hdiv]
    exact hbefore _ (ceilDiv_le_of_le_mul hd hm)
  · rw [← hsh, ← hlast, Ud.withTc_sh]
  · rw [← hend, ← hlast, Ud.withTc_st]

/-- A UART detector that is not done up to cycle `f` has not fired before it. If it is then done, it fires in cycle `f`
and the next cycle starts the sequence; if it is not, the block waits on (R131, R145, R166). -/
theorem hwRun_of_uart_end {f : Nat} (hg : b.gd.running = false) (hfired : b.fired = false) (hrel : b.release = false)
    (hwait : b.pg.st = .wait) (hbefore : ∀ m ≤ f, (hwRun P inp m b).ud.st ≠ .done) :
    (∀ m ≤ f, (hwRun P inp m b).fired = false) ∧
      ((hwRun P inp (f + 1) b).ud.st = .done →
        (hwRun P inp (f + 1) b).fired = true ∧ (hwRun P inp (f + 1) b).release = true ∧
        ((hwRun P inp (f + 2) b).pg, (hwRun P inp (f + 2) b).q) = startSequence P b.pg b.q ∧
        (hwRun P inp (f + 2) b).release = false) ∧
      ((hwRun P inp (f + 1) b).ud.st ≠ .done →
        (hwRun P inp (f + 1) b).fired = false ∧ (hwRun P inp (f + 1) b).release = false ∧
        (hwRun P inp (f + 1) b).pg = b.pg) := by
  have hno : ∀ m < f, firesAt P inp b m = false := fun m hm => not_firesAt_of_uart hg (hbefore (m + 1) hm)
  refine ⟨fun m hm => hwRun_not_fired hfired fun k hk => hno k (hk.trans_le hm), fun hdone => ?_, fun hnot => ?_⟩
  · have hfire : firesAt P inp b f = true := (firesAt_iff_uart hg).mpr ⟨hbefore f le_rfl, hdone⟩
    have hnext : firesAt P inp b (f + 1) = false :=
      Bool.eq_false_iff.mpr fun h => ((firesAt_iff_uart hg).mp h).1 hdone
    obtain ⟨hset, _, hseq, hconsumed⟩ := hwRun_of_first_fire hwait hrel hno hfire hnext
    exact ⟨hwRun_fired.mpr (.inr ⟨f, f.lt_succ_self, hfire⟩), hset, hseq, hconsumed⟩
  · have hno' : ∀ m < f + 1, firesAt P inp b m = false := fun m hm => by
      rcases Nat.lt_succ_iff_lt_or_eq.mp hm with hlt | rfl
      · exact hno m hlt
      · exact not_firesAt_of_uart hg hnot
    obtain ⟨hpg, _, hr⟩ := hwRun_waits hwait hrel hno'
    exact ⟨hwRun_not_fired hfired hno', hr, hpg⟩

end UartDetection

/-- Settles O32: the cycles are cut into ticks, the ticks into the bits of the byte; a detector that becomes done
fires. -/
theorem uartByteDecode : Obligations.UartByteDecode := by
  intro P inp b htc hdiv hg hfired hrel hwait d
  refine ⟨fun m hrun => hwRun_ud_tick_iff htc hdiv hrun, fun n hst hlow hhigh =>
    hwRun_ud_waitIdle htc hdiv hst hlow hhigh, fun n hst hhigh hlow => hwRun_ud_waitStart htc hdiv hst hhigh hlow,
    fun hst h0 h4 => ?_, fun v hst h0 h4 hbits => ?_⟩
  · have h0' : uartSample inp d 0 = false := by rwa [uartSample, Nat.zero_mul]
    obtain ⟨hstart, hback⟩ := hwRun_ud_false_start (P := P) htc hdiv hst h0' h4
    refine ⟨hstart, hback, hwRun_not_fired hfired fun m hm => not_firesAt_of_uart hg ?_⟩
    rcases Nat.lt_succ_iff_lt_or_eq.mp hm with hlt | rfl
    · simp [hstart (m + 1) (by omega) hlt]
    · simp [d, hback]
  · have h0' : uartSample inp d 0 = false := by rwa [uartSample, Nat.zero_mul]
    obtain ⟨hbefore, hsh, hend⟩ := hwRun_ud_byte (P := P) htc hdiv hst h0' h4 hbits
    obtain ⟨hquiet, hmatch, hmismatch⟩ := hwRun_of_uart_end hg hfired hrel hwait hbefore
    refine ⟨hquiet, hsh, fun hv => ?_, fun hv => ?_⟩
    · rw [if_pos hv] at hend
      obtain ⟨hf, hr, hseq⟩ := hmatch hend
      exact ⟨hf, hr, hend, hseq⟩
    · rw [if_neg hv] at hend
      obtain ⟨hf, hr, hpg⟩ := hmismatch (by simp [hend])
      exact ⟨hf, hr, hend, hpg⟩

end Sys2Proof.Machine

/-!
PROOF. The pulse generator (41_pulse_generator.md): the release, the sequence in closed form over every run without ARM,
and what commands and writes to CFG can do to it.
-/

namespace Sys2Proof.Machine

/-! ### The release (R163 to R166) -/

/-- The number of pulses: COUNT − 1 is queued, and one is added back modulo 2^32 (R163). -/
theorem toNat_add_one (c : Word) : (c + 1).toNat = (c.toNat + 1) % 2 ^ 32 := BitVec.toNat_add c 1

/-- BeginPulses changes the phase and its count alone (R165). -/
theorem Pg.beginPulses_frame (pg : Pg) :
    pg.beginPulses.w = pg.w ∧ pg.beginPulses.g = pg.g ∧ pg.beginPulses.reps = pg.reps := by
  rcases pg.beginPulses_cases with ⟨_, h⟩ | ⟨_, h⟩ <;> rw [h] <;> exact ⟨rfl, rfl, rfl⟩

/-- Settles O16: pause and pulses begin with the same width, gap and count; only the pulses look at the count. -/
theorem releaseTakesTheQueue : Obligations.ReleaseTakesTheQueue := by
  intro P pg p c w g hP
  simp only [startSequence_four, ← clamp_toNat hP, ← toNat_add_one, true_and]
  by_cases hp : 0 < p.toNat
  · have hp0 : p ≠ 0 := by bv_omega
    rw [if_pos hp]
    exact ⟨rfl, rfl, rfl, fun _ => ⟨rfl, rfl⟩, fun h => absurd h hp0, fun h => absurd h hp0⟩
  · have hp0 : p = 0 := by bv_omega
    obtain ⟨hw, hg, hreps⟩ := Pg.beginPulses_frame { pg with w := clamp P w, g := clamp P g, reps := c + 1 }
    rw [if_neg hp]
    refine ⟨by rw [hw], by rw [hg], by rw [hreps], fun h => absurd hp0 h, fun _ hc => ?_, fun _ hc => ?_⟩
    · rw [Pg.beginPulses, if_pos (show 0 < (c + 1).toNat by bv_omega)]
      exact ⟨rfl, rfl⟩
    · rw [Pg.beginPulses, if_neg (show ¬0 < (c + 1).toNat by simp [hc])]
      exact ⟨rfl, rfl⟩

/-- A waiting generator leaves no RELEASE over a cycle but what a detector sets in it (R166, R172). -/
theorem hwStep_release_of_wait {b : Block} (h : b.pg.st = .wait) (P : Params) (inp : Inputs) :
    (hwStep P inp b).release = (detStep P inp b).fired := by
  rw [hwStep_release]
  cases hr : b.release <;> simp [consumes, h, hr]

/-- Settles O17: the generator's step from WAIT, by RELEASE. -/
theorem waitStepConsumesRelease : Obligations.WaitStepConsumesRelease := by
  intro P inp b hwait
  have hrelease := hwStep_release_of_wait hwait P inp
  refine ⟨fun hr => ⟨?_, hrelease⟩, fun hr => ⟨?_, ?_, hrelease⟩⟩
  all_goals simp [pgStep, hwait, hr]

/-! ### A generator that does not wait: its step is its own (R167, R168) -/

/-- PG after a cycle in which no sequence starts. -/
def Pg.next (pg : Pg) : Pg := (pgStep Config.params false pg []).1

/-- Out of WAIT the step reads neither RELEASE nor Q nor a parameter (R167, R168). -/
theorem pgStep_of_ne_wait {pg : Pg} (h : pg.st ≠ .wait) (P : Params) (release : Bool) (q : List Word) :
    (pgStep P release pg q).1 = pg.next := by
  unfold Pg.next pgStep
  cases hst : pg.st with
  | wait => exact absurd hst h
  | stopped | pause | high | low => rfl

theorem Pg.next_ne_wait {pg : Pg} (h : pg.st ≠ .wait) : pg.next.st ≠ .wait :=
  fun hn => h (pgStep_st_eq_wait.mp hn).1

theorem Pg.next_stopped {pg : Pg} (h : pg.st = .stopped) : pg.next = pg := by
  simp [next, pgStep, h]

section NextEquations

variable (cnt reps w g : Word)

theorem Pg.next_pause : Pg.next ⟨.pause, cnt, reps, w, g⟩ =
    if cnt - 1 = 0 then Pg.beginPulses ⟨.pause, cnt - 1, reps, w, g⟩ else ⟨.pause, cnt - 1, reps, w, g⟩ := rfl

theorem Pg.next_high : Pg.next ⟨.high, cnt, reps, w, g⟩ =
    if cnt - 1 = 0 then ⟨.low, g, reps, w, g⟩ else ⟨.high, cnt - 1, reps, w, g⟩ := rfl

theorem Pg.next_low : Pg.next ⟨.low, cnt, reps, w, g⟩ =
    if cnt - 1 = 0 then
      if 0 < (reps - 1).toNat then ⟨.high, w, reps - 1, w, g⟩ else ⟨.stopped, cnt - 1, reps - 1, w, g⟩
    else ⟨.low, cnt - 1, reps, w, g⟩ := rfl

end NextEquations

theorem hwStep_pg_of_ne_wait {b : Block} (h : b.pg.st ≠ .wait) (P : Params) (inp : Inputs) :
    (hwStep P inp b).pg = b.pg.next :=
  pgStep_of_ne_wait h ..

/-- Of the instructions ARM alone touches a generator that does not wait (R169, R170, R196). -/
theorem execBlock_pg {i : Instr} {b : Block} (h : b.pg.st ≠ .wait) (hi : i ≠ .cmdArm) :
    (execBlock i b).pg = b.pg := by
  cases execBlock_effect i b with
  | access _ _ _ he | resultOnly _ _ he | resetDisarmed _ _ he => simp [he, Block.resetRegisters]
  | arm harm => exact absurd harm hi
  | disarm _ _ he | poll _ _ he | resetArmed _ _ he => simp [he, Block.resetRegisters, h]
  | execute _ _ he => simp [he, Block.executeRelease_eq, h]

/-- A sequence under way is no wait (R189). -/
theorem Block.Firing.ne_wait {b : Block} (h : b.Firing) : b.pg.st ≠ .wait := by
  rcases h with h | h | h <;> simp [h]

/-- Settles O20: of the instructions ARM alone touches PG, and a successful ARM clears it. -/
theorem onlyArmStopsASequence : Obligations.OnlyArmStopsASequence := by
  refine ⟨fun i s hfiring hi => ⟨_, exec_eq i s, execBlock_pg hfiring.ne_wait hi⟩, fun P b _ hok => ?_⟩
  rw [armCommand, hok, Block.withResult_pg, Block.armEffects_eq]

/-! ### Runs without ARM (R169, R178) -/

/-- A step takes lines from the schedule and adds none. -/
theorem step_host_subset {s t : State} (h : step s = .next t) : t.host ⊆ s.host := by
  rcases step_cases h with ⟨_, rfl⟩ | ⟨_, _, _, _, hhost, _, rfl⟩ | ⟨_, _, i, hhost, _, he⟩
  · exact List.tail_subset _
  · rw [hhost]
    exact List.subset_cons_self ..
  · rw [exec_eq_next.mp he, hhost]
    exact List.subset_cons_self ..

theorem State.NoArm.step {s t : State} (hno : s.NoArm) (h : step s = .next t) : t.NoArm :=
  fun bits T hmem => hno bits T (step_host_subset h hmem)

/-- A step without ARM runs a cycle of the generator or leaves PG as it is. -/
theorem step_pg {s t : State} (hno : s.NoArm) (hst : s.blk.pg.st ≠ .wait) (h : step s = .next t) :
    (t.cycle = s.cycle + 1 ∧ t.blk.pg = s.blk.pg.next) ∨ (t.cycle = s.cycle ∧ t.blk.pg = s.blk.pg) := by
  rcases step_cases h with ⟨_, rfl⟩ | ⟨_, _, _, _, _, _, rfl⟩ | ⟨T, rest, i, hhost, hd, he⟩
  · exact .inl ⟨rfl, hwStep_pg_of_ne_wait hst ..⟩
  · exact .inr ⟨rfl, rfl⟩
  · have hi : i ≠ .cmdArm := by
      rintro rfl
      exact hno 32 T (by simp [hhost]) ((decodeAccess_32 T).trans hd)
    rw [exec_eq_next.mp he]
    exact .inr ⟨rfl, execBlock_pg hst hi⟩

theorem Reaches.exists_step {k : Nat} {s u : State} (h : Reaches (k + 1) s u) :
    ∃ t, step s = .next t ∧ Reaches k t u := by
  obtain ⟨t, ht⟩ := step_answers s
  refine ⟨t, ht, ?_⟩
  simpa [Reaches, runSteps, ht] using h

/-- A run without ARM takes a generator that does not wait through as many of its steps as there are cycles, whatever
transactions stand between them. -/
theorem Reaches.pg_eq_iterate {k : Nat} {s t : State} (hno : s.NoArm) (hst : s.blk.pg.st ≠ .wait)
    (h : Reaches k s t) : ∃ m, t.cycle = s.cycle + m ∧ t.blk.pg = Pg.next^[m] s.blk.pg := by
  induction k generalizing s with
  | zero =>
    cases h
    exact ⟨0, rfl, rfl⟩
  | succ k ih =>
    obtain ⟨r, hs, hr⟩ := h.exists_step
    rcases step_pg hno hst hs with ⟨hcycle, hpg⟩ | ⟨hcycle, hpg⟩
    · obtain ⟨m, hm, ht⟩ := ih (hno.step hs) (hpg ▸ Pg.next_ne_wait hst) hr
      exact ⟨m + 1, by omega, by rw [ht, hpg, Function.iterate_succ_apply]⟩
    · obtain ⟨m, hm, ht⟩ := ih (hno.step hs) (hpg ▸ hst) hr
      exact ⟨m, by omega, by rw [ht, hpg]⟩

theorem Pg.iterate_next_ne_wait {pg : Pg} (h : pg.st ≠ .wait) (m : Nat) : (Pg.next^[m] pg).st ≠ .wait := by
  induction m with
  | zero => exact h
  | succ m ih =>
    rw [Function.iterate_succ_apply']
    exact next_ne_wait ih

/-- Settles O21: no step of the generator enters WAIT, and STOPPED is a fixed point of it. -/
theorem atMostOneSequencePerArm : Obligations.AtMostOneSequencePerArm := by
  intro s t k hno hst hrun
  obtain ⟨m, _, hpg⟩ := hrun.pg_eq_iterate hno hst
  rw [hpg]
  exact ⟨Pg.iterate_next_ne_wait hst m, fun hstopped => Function.iterate_fixed (Pg.next_stopped hstopped) m⟩

/-! ### Where a sequence stands (R171) -/

/-- PG in cycle `m` of a sequence with pause `p`, `n` pulses, width `w` and gap `g`, after `a` HIGH cycles; `j` pulses
are over where one is under way. -/
inductive Pg.At (p n : Nat) (w g : Word) (m a : Nat) : Pg → Prop
  | pause {cnt reps : Word} (hpos : 1 ≤ cnt.toNat) (hreps : reps.toNat = n) (hm : m + cnt.toNat = p) (ha : a = 0) :
      At p n w g m a ⟨.pause, cnt, reps, w, g⟩
  | high {cnt reps : Word} (j : Nat) (hpos : 1 ≤ cnt.toNat) (hle : cnt.toNat ≤ w.toNat)
      (hreps : 1 ≤ reps.toNat) (hn : j + reps.toNat = n)
      (hm : m + cnt.toNat = p + j * (w.toNat + g.toNat) + w.toNat) (ha : a + cnt.toNat = j * w.toNat + w.toNat) :
      At p n w g m a ⟨.high, cnt, reps, w, g⟩
  | low {cnt reps : Word} (j : Nat) (hpos : 1 ≤ cnt.toNat) (hle : cnt.toNat ≤ g.toNat)
      (hreps : 1 ≤ reps.toNat) (hn : j + reps.toNat = n)
      (hm : m + cnt.toNat = p + j * (w.toNat + g.toNat) + w.toNat + g.toNat) (ha : a = j * w.toNat + w.toNat) :
      At p n w g m a ⟨.low, cnt, reps, w, g⟩
  | stopped {pg : Pg} (hst : pg.st = .stopped) (hm : p + n * (w.toNat + g.toNat) ≤ m) (ha : a = n * w.toNat) :
      At p n w g m a pg

/-- The phase in cycle `m` of a sequence (R171): the pause, then `n` pulses of `W` HIGH and `G` LOW cycles. -/
def sequencePhase (p n W G m : Nat) : PgSt :=
  if m < p then .pause
  else if (m - p) / (W + G) < n then if (m - p) % (W + G) < W then .high else .low
  else .stopped

/-- The `x`-th cycle of pulse `j` (R171). -/
theorem sequencePhase_pulse {p n W G j x : Nat} (hj : j < n) (hx : x < W + G) :
    sequencePhase p n W G (p + j * (W + G) + x) = if x < W then .high else .low := by
  have hsub : p + j * (W + G) + x - p = x + (W + G) * j := by rw [Nat.mul_comm]; omega
  have hdiv : (x + (W + G) * j) / (W + G) = j := by
    rw [Nat.add_mul_div_left _ _ (by omega), Nat.div_eq_of_lt hx, Nat.zero_add]
  rw [sequencePhase, if_neg (by omega), hsub, hdiv, if_pos hj, Nat.add_mul_mod_self_left, Nat.mod_eq_of_lt hx]

theorem sequencePhase_stopped {p n W G m : Nat} (hL : 0 < W + G) (hm : p + n * (W + G) ≤ m) :
    sequencePhase p n W G m = .stopped := by
  have hdiv : n ≤ (m - p) / (W + G) := (Nat.le_div_iff_mul_le hL).mpr (by omega)
  rw [sequencePhase, if_neg (by omega), if_neg (by omega)]

section Sequence

variable {p n m a : Nat} {w g : Word} {pg : Pg}

theorem Pg.At.ne_wait (h : pg.At p n w g m a) : pg.st ≠ .wait := by
  cases h with
  | pause | high | low => nofun
  | stopped hst => simp [hst]

/-- A sequence is in the phase R171 gives. -/
theorem Pg.At.st_eq (hw : 1 ≤ w.toNat) (h : pg.At p n w g m a) :
    pg.st = sequencePhase p n w.toNat g.toNat m := by
  cases h with
  | pause hpos _ hm => exact (if_pos (by omega)).symm
  | @high cnt reps j hpos hle hreps hn hm =>
    have hm' : m = p + j * (w.toNat + g.toNat) + (w.toNat - cnt.toNat) := by omega
    rw [hm', sequencePhase_pulse (by omega) (by omega), if_pos (by omega)]
  | @low cnt reps j hpos hle hreps hn hm =>
    have hm' : m = p + j * (w.toNat + g.toNat) + (w.toNat + g.toNat - cnt.toNat) := by omega
    rw [hm', sequencePhase_pulse (by omega) (by omega), if_neg (by omega)]
  | stopped hst hm => rw [hst, sequencePhase_stopped (by omega) hm]

/-- Once its cycles are over a sequence has been HIGH for `n` times its width. -/
theorem Pg.At.active_eq (hw : 1 ≤ w.toNat) (h : pg.At p n w g m a) (hm : p + n * (w.toNat + g.toNat) ≤ m) :
    a = n * w.toNat := by
  have hst := h.st_eq hw
  rw [sequencePhase_stopped (by omega) hm] at hst
  cases h with
  | pause | high | low => cases hst
  | stopped _ _ ha => exact ha

/-- The pulses begin in the cycle after the pause, or there are none (R165). -/
theorem Pg.beginPulses_at {st : PgSt} {cnt reps : Word} (hw : 1 ≤ w.toNat) (hreps : reps.toNat = n) :
    (Pg.beginPulses ⟨st, cnt, reps, w, g⟩).At p n w g p 0 := by
  rcases Pg.beginPulses_cases ⟨st, cnt, reps, w, g⟩ with ⟨hpos, h⟩ | ⟨hzero, h⟩ <;> rw [h]
  · exact .high 0 hw le_rfl hpos (by simpa using hreps) (by simp) (by simp)
  · have hn : n = 0 := hreps.symm.trans hzero
    exact .stopped rfl (by simp [hn]) (by simp [hn])

theorem toNat_sub_one_add_one {v : Word} (h : 1 ≤ v.toNat) : (v - 1).toNat + 1 = v.toNat := by
  bv_omega

/-- A cycle takes a sequence one cycle on (R167, R168). -/
theorem Pg.At.next (hw : 1 ≤ w.toNat) (hg : 1 ≤ g.toNat) (h : pg.At p n w g m a) :
    pg.next.At p n w g (m + 1) (a + if pg.st = .high then 1 else 0) := by
  cases h with
  | @pause cnt reps hpos hreps hm ha =>
    have hcnt := toNat_sub_one_add_one hpos
    have hinactive : PgSt.pause ≠ .high := nofun
    rw [next_pause, if_neg hinactive]
    split
    · next h0 =>
      have hlast : cnt.toNat = 1 := by bv_omega
      obtain rfl : m + 1 = p := by omega
      rw [ha]
      exact beginPulses_at hw hreps
    · exact .pause (by bv_omega) hreps (by omega) ha
  | @high cnt reps j hpos hle hreps hn hm ha =>
    have hcnt := toNat_sub_one_add_one hpos
    rw [next_high, if_pos rfl]
    split
    · next h0 =>
      have hlast : cnt.toNat = 1 := by bv_omega
      exact .low j hg le_rfl hreps hn (by omega) (by omega)
    · exact .high j (by bv_omega) (by omega) hreps hn (by omega) (by omega)
  | @low cnt reps j hpos hle hreps hn hm ha =>
    have hcnt := toNat_sub_one_add_one hpos
    have hpulse := toNat_sub_one_add_one hreps
    have hinactive : PgSt.low ≠ .high := nofun
    rw [next_low, if_neg hinactive]
    split
    · next h0 =>
      have hlast : cnt.toNat = 1 := by bv_omega
      split
      · next hmore =>
        exact .high (j + 1) hw le_rfl hmore (by omega) (by rw [Nat.succ_mul]; omega) (by rw [Nat.succ_mul]; omega)
      · have hj : n = j + 1 := by omega
        exact .stopped rfl (by rw [hj, Nat.succ_mul]; omega) (by rw [hj, Nat.succ_mul]; omega)
    · exact .low j (by bv_omega) (by omega) hreps hn (by omega) (by omega)
  | stopped hst hm ha =>
    rw [next_stopped hst, if_neg (by simp [hst])]
    exact .stopped hst (by omega) ha

theorem Pg.At.iterate (hw : 1 ≤ w.toNat) (hg : 1 ≤ g.toNat) (h : pg.At p n w g 0 a) (m : Nat) :
    ∃ a, (Pg.next^[m] pg).At p n w g m a := by
  induction m with
  | zero => exact ⟨a, h⟩
  | succ m ih =>
    obtain ⟨a, ha⟩ := ih
    rw [Function.iterate_succ_apply']
    exact ⟨_, ha.next hw hg⟩

end Sequence

theorem clamp_pos {P : Params} (hP : P.Legal) (v : Word) : 1 ≤ (clamp P v).toNat := by
  have hfloor := hP.three_le_floor
  rw [clamp_toNat hP]
  omega

/-- StartSequence puts the generator at the first cycle of the sequence that the queue describes (R163 to R165). -/
theorem startSequence_at {P : Params} (hP : P.Legal) (pg : Pg) (p c w g : Word) :
    (startSequence P pg [p, c, w, g]).1.At p.toNat ((c.toNat + 1) % 2 ^ 32) (clamp P w) (clamp P g) 0 0 := by
  rw [startSequence_four]
  simp only
  split
  · next hp => exact .pause hp (toNat_add_one c) (Nat.zero_add _) rfl
  · next hp =>
    rw [Nat.eq_zero_of_not_pos hp]
    exact Pg.beginPulses_at (clamp_pos hP w) (toNat_add_one c)

/-- Settles O18: the run takes the generator through one step per cycle, and each step the sequence one cycle on. -/
theorem sequenceClosedForm : Obligations.SequenceClosedForm := by
  intro s t pg p c w g k hno hpg hrun
  have hP := Config.params_legal
  have hW := clamp_toNat hP w
  have hG := clamp_toNat hP g
  have hpos := clamp_pos hP w
  have hstart := startSequence_at hP pg p c w g
  rw [← hpg] at hstart
  obtain ⟨m, hcycle, ht⟩ := hrun.pg_eq_iterate hno hstart.ne_wait
  obtain ⟨a, hat⟩ := hstart.iterate hpos (clamp_pos hP g) m
  have hm : t.cycle - s.cycle = m := by omega
  simp only [hm, ht, hat.st_eq hpos, ← hW, ← hG]
  refine ⟨fun h => if_pos h, fun j i hj hi h => ?_, fun j i hj hi h => ?_, fun h => sequencePhase_stopped (by omega) h⟩
  · rw [h, sequencePhase_pulse hj (by omega), if_pos hi]
  · rw [h, Nat.add_assoc _ _ i, sequencePhase_pulse hj (by omega), if_neg (by omega)]

/-- The number of active cycles among the first `N` of a run. -/
def activeCycles (P : Params) (inp : Nat → Inputs) (b : Block) (N : Nat) : Nat :=
  ((List.range N).filter (fun m => (hwRun P inp m b).active)).length

theorem activeCycles_succ (P : Params) (inp : Nat → Inputs) (b : Block) (N : Nat) :
    activeCycles P inp b (N + 1) = activeCycles P inp b N + if (hwRun P inp N b).pg.st = .high then 1 else 0 := by
  rw [activeCycles, List.range_succ, List.filter_append, List.length_append, List.filter_singleton, Block.active]
  by_cases hst : (hwRun P inp N b).pg.st = .high <;> simp [hst, activeCycles]

/-- A run of cycles takes a sequence on, its HIGH cycles being the active ones (R48, R171). -/
theorem hwRun_pg_at {P : Params} {inp : Nat → Inputs} {b : Block} {p n : Nat} {w g : Word} (hw : 1 ≤ w.toNat)
    (hg : 1 ≤ g.toNat) (h : b.pg.At p n w g 0 0) (N : Nat) :
    (hwRun P inp N b).pg.At p n w g N (activeCycles P inp b N) := by
  induction N with
  | zero => exact h
  | succ N ih =>
    rw [hwRun_succ, hwStep_pg_of_ne_wait ih.ne_wait, activeCycles_succ]
    exact ih.next hw hg

/-- Settles O19: the active cycles are counted along the sequence, up to its end. -/
theorem activeCycleCount : Obligations.ActiveCycleCount := by
  intro P inp b pg p c w g N hP hpg hN
  have hstart := startSequence_at hP pg p c w g
  rw [← hpg] at hstart
  have hat := hwRun_pg_at (P := P) (inp := inp) (clamp_pos hP w) (clamp_pos hP g) hstart N
  rw [← clamp_toNat hP w, ← clamp_toNat hP g] at hN
  rw [← clamp_toNat hP w]
  exact hat.active_eq (clamp_pos hP w) hN

/-! ### DISARM (R170, R193, R194) -/

/-- DisarmEffects, element by element (R193). -/
theorem Block.disarmEffects_eq (b : Block) : b.disarmEffects =
    { b with
      armed := false, release := false, q := [], gd := ⟨.off, 0⟩, ud := ⟨.off, 0, 0, 0, 0⟩
      pg := if b.pg.st = .wait then { b.pg with st := .stopped } else b.pg } := by
  have hpg : b.disarmEffects.pg = if b.pg.st = .wait then { b.pg with st := .stopped } else b.pg := by
    rw [disarmEffects_pg]
    split <;> rfl
  rw [← hpg]
  rfl

/-- Settles O36: DISARM takes its effects on an armed block, and writes RESULT in any case. -/
theorem disarmEffects : Obligations.DisarmEffects := by
  intro s
  rw [exec_eq, execBlock]
  rcases disarmCommand_cases s.blk with ⟨ha, h⟩ | ⟨ha, h⟩
  · rw [h, if_pos ha, Block.disarmEffects_eq]
    rfl
  · rw [h, if_neg (by simp [ha])]
    rfl

/-! ### The armed cycle does not read CFG (R173, R244, R296) -/

section WithCfg

variable (b : Block) (c : Cfg)

theorem hwRun_withCfg (P : Params) (inp : Nat → Inputs) (n : Nat) :
    hwRun P inp n { b with cfg := c } = { hwRun P inp n b with cfg := c } := by
  induction n with
  | zero => rfl
  | succ n ih =>
    rw [hwRun_succ, ih]
    rfl

theorem Block.executeRelease_withCfg (P : Params) :
    executeRelease P { b with cfg := c } = { b.executeRelease P with cfg := c } := by
  rw [executeRelease_eq, executeRelease_eq]

theorem executeCommand_withCfg (P : Params) :
    executeCommand P { b with cfg := c } = { executeCommand P b with cfg := c } := by
  rcases executeCommand_cases P b with ⟨ha, h⟩ | ⟨ha, h⟩
  · have h' : executeCommand P { b with cfg := c } =
        (Block.executeRelease P { b with cfg := c }).disarmEffects.withResult .ok := if_pos ha
    rw [h, h', Block.executeRelease_withCfg]
    rfl
  · rw [h]
    exact if_neg (by simp [ha])

theorem pollCommand_withCfg : pollCommand { b with cfg := c } = { pollCommand b with cfg := c } := by
  unfold pollCommand
  simp only
  split <;> rfl

theorem disarmCommand_withCfg : disarmCommand { b with cfg := c } = { disarmCommand b with cfg := c } := by
  unfold disarmCommand
  simp only
  split <;> rfl

end WithCfg

/-- Settles O58: a cycle reads LAT and Q, and each command reads ARMED, PG and Q. -/
theorem armedCycleIgnoresConfig : Obligations.ArmedCycleIgnoresConfig :=
  fun P inp b c => ⟨hwRun_withCfg b c P inp, executeCommand_withCfg b c P, pollCommand_withCfg b c,
    disarmCommand_withCfg b c⟩

end Sys2Proof.Machine

/-!
PROOF. The controller (42_controller.md): the checks and effects of ARM, the other commands element by element, and how
a command fails.
-/

namespace Sys2Proof.Machine

/-! ### Every command answers, and so does a command given twice (R206) -/

/-- A command answers with RDATA = 0 and ERR = 0, whether it succeeds or fails (R100, R206). -/
theorem exec_command {i : Instr} (hi : i.isCommand = true) (s : State) :
    exec i s = .next (s.respond (execBlock i s.blk) 0 false) := by
  cases i
  case cmdArm | cmdDisarm | cmdExecute | cmdReset | cmdPoll | cmdIllegal => exact exec_eq _ s
  all_goals cases hi

/-- A command whose effect on the block is already there changes nothing when it comes again, the response included. -/
theorem exec_command_twice {i : Instr} (hi : i.isCommand = true) {s : State}
    (h : execBlock i (execBlock i s.blk) = execBlock i s.blk) :
    exec i (s.respond (execBlock i s.blk) 0 false) = .next (s.respond (execBlock i s.blk) 0 false) := by
  rw [exec_command hi, State.respond_blk, h]
  rfl

theorem Block.withResult_eq_self {b : Block} {c : ResultCode} (h : b.result = c) : b.withResult c = b := by
  rw [← h]
  rfl

/-! ### ARM (R190 to R192, R207) -/

/-- ARM's checks in the spec's words (R190). -/
theorem armCheck_eq (P : Params) (b : Block) : armCheck P b =
    if b.armed = true then .errState
    else if b.cfg.kind = .gpio ∧ P.numPins ≤ b.cfg.pin.toNat then .errConfig
    else if (b.cfg.kind = .gpio ∧ P.availableGpio = false) ∨ (b.cfg.kind = .uart ∧ P.availableUart = false) then
      .errResource
    else .ok := by
  simp only [armCheck, Bool.not_eq_true', Params.available_eq_false]

theorem armCheck_eq_errState {P : Params} {b : Block} : armCheck P b = .errState ↔ b.armed = true := by
  rw [armCheck_eq]
  repeat' split
  all_goals simp_all

theorem armCheck_eq_errConfig {P : Params} {b : Block} : armCheck P b = .errConfig ↔
    b.armed = false ∧ b.cfg.kind = .gpio ∧ P.numPins ≤ b.cfg.pin.toNat := by
  rw [armCheck_eq]
  repeat' split
  all_goals simp_all

theorem armCheck_eq_errResource {P : Params} {b : Block} : armCheck P b = .errResource ↔
    b.armed = false ∧ ((b.cfg.kind = .gpio ∧ b.cfg.pin.toNat < P.numPins ∧ P.availableGpio = false) ∨
      (b.cfg.kind = .uart ∧ P.availableUart = false)) := by
  rw [armCheck_eq]
  repeat' split
  all_goals grind

/-- ARM never calls the command word illegal (R190). -/
theorem armCheck_ne_errIllegal (P : Params) (b : Block) : armCheck P b ≠ .errIllegal := by
  rw [armCheck_eq]
  repeat' split
  all_goals nofun

theorem armCommand_of_ok {P : Params} {b : Block} (h : armCheck P b = .ok) :
    armCommand P b = b.armEffects.withResult .ok := by
  rw [armCommand, h]

theorem armCommand_of_failed {P : Params} {b : Block} {c : ResultCode} (h : armCheck P b = c) (hc : c ≠ .ok) :
    armCommand P b = b.withResult c := by
  rcases armCommand_cases P b with ⟨hok, _⟩ | ⟨_, he⟩
  · exact absurd (h ▸ hok) hc
  · rw [he, h]

/-- A successful ARM leaves the block armed, so the checks of the next one fail at the first. -/
theorem armCommand_armed {P : Params} {b : Block} (h : armCheck P b = .ok) : (armCommand P b).armed = true := by
  rw [armCommand_of_ok h, Block.armEffects_eq]
  rfl

/-- A successful ARM clears FIRED and RELEASE (R191). -/
theorem armCommand_clears {P : Params} {b : Block} (h : (armCommand P b).result = .ok) :
    (armCommand P b).fired = false ∧ (armCommand P b).release = false := by
  rw [armCommand_result] at h
  rw [armCommand_of_ok h, Block.armEffects_eq]
  exact ⟨rfl, rfl⟩

/-- Settles O34, check by check. -/
theorem armChecksAndEffects : Obligations.ArmChecksAndEffects := by
  refine ⟨fun P b => ?_, exec_command rfl⟩
  split
  · next harmed => exact armCommand_of_failed (armCheck_eq_errState.mpr harmed) nofun
  · next harmed =>
    split
    · next hpin =>
      exact armCommand_of_failed (armCheck_eq_errConfig.mpr ⟨Bool.eq_false_iff.mpr harmed, hpin⟩) nofun
    · next hpin =>
      split
      · next hres => exact armCommand_of_failed (by rw [armCheck_eq, if_neg harmed, if_neg hpin, if_pos hres]) nofun
      · next hres =>
        rw [armCommand_of_ok (by rw [armCheck_eq, if_neg harmed, if_neg hpin, if_neg hres]), Block.armEffects_eq]
        rfl

/-- Settles O35: the first ARM sets ARMED, which the second one's first check finds. -/
theorem armTwiceFails : Obligations.ArmTwiceFails := by
  intro P b hok
  have harmed := armCommand_armed hok
  exact ⟨by rw [armCommand_result, hok], harmed, armCommand_of_failed (armCheck_eq_errState.mpr harmed) nofun⟩

/-! ### DISARM and POLL (R194, R202): each leaves nothing for a second one to do -/

theorem disarmCommand_result (b : Block) : (disarmCommand b).result = .ok := rfl

theorem disarmCommand_armed (b : Block) : (disarmCommand b).armed = false := by
  rcases disarmCommand_cases b with ⟨_, h⟩ | ⟨ha, h⟩ <;> rw [h]
  · rfl
  · exact ha

theorem disarmCommand_disarmCommand (b : Block) : disarmCommand (disarmCommand b) = disarmCommand b := by
  rcases disarmCommand_cases (disarmCommand b) with ⟨ha, _⟩ | ⟨_, h⟩
  · exact absurd ha (by simp [disarmCommand_armed])
  · rw [h, Block.withResult_eq_self (disarmCommand_result b)]

/-- Settles O37: a disarmed block with RESULT OK is a fixed point of DISARM. -/
theorem disarmIsIdempotent : Obligations.DisarmIsIdempotent :=
  fun s => ⟨_, exec_command rfl s, exec_command_twice rfl (disarmCommand_disarmCommand s.blk),
    disarmCommand_armed s.blk⟩

theorem pollCommand_result (b : Block) : (pollCommand b).result = .ok := rfl

/-- After a POLL the generator is not both armed and released: either POLL has disarmed it, or it was not before. -/
theorem pollCommand_not_due (b : Block) : ¬((pollCommand b).armed = true ∧ (pollCommand b).q = []) := by
  rcases pollCommand_cases b with ⟨_, _, h⟩ | ⟨hno, h⟩ <;> rw [h]
  · simp
  · exact hno

/-- A glitch is counted once (R203 item 4). -/
theorem pollCommand_pollCommand (b : Block) : pollCommand (pollCommand b) = pollCommand b := by
  rcases pollCommand_cases (pollCommand b) with ⟨ha, hq, _⟩ | ⟨_, h⟩
  · exact absurd ⟨ha, hq⟩ (pollCommand_not_due b)
  · rw [h, Block.withResult_eq_self (pollCommand_result b)]

/-- Settles O41: POLL counts and disarms a released generator, after which it is no longer armed. -/
theorem pollCountsOnce : Obligations.PollCountsOnce := by
  refine ⟨fun s => ?_, fun s => ⟨_, exec_command rfl s, exec_command_twice rfl (pollCommand_pollCommand s.blk)⟩⟩
  rw [exec_command rfl, execBlock]
  rcases pollCommand_cases s.blk with ⟨ha, hq, h⟩ | ⟨hno, h⟩
  · rw [h, if_pos ⟨ha, hq⟩, Block.disarmEffects_eq, ← hq]
    rfl
  · rw [h, if_neg hno]
    rfl

/-! ### EXECUTE (R195, R196) -/

theorem executeCommand_of_disarmed {b : Block} (h : b.armed = false) (P : Params) :
    executeCommand P b = b.withResult .errState := by
  rcases executeCommand_cases P b with ⟨ha, _⟩ | ⟨_, he⟩
  · simp [h] at ha
  · exact he

theorem executeCommand_of_armed {b : Block} (h : b.armed = true) (P : Params) :
    executeCommand P b = (b.executeRelease P).disarmEffects.withResult .ok := by
  rcases executeCommand_cases P b with ⟨_, he⟩ | ⟨ha, _⟩
  · exact he
  · simp [h] at ha

/-- EXECUTE's release leaves no generator waiting, so the disarm effects do not stop the sequence it starts (R196). -/
theorem Block.executeRelease_ne_wait (P : Params) (b : Block) : (b.executeRelease P).pg.st ≠ .wait := by
  rw [executeRelease_eq]
  simp only
  split
  · exact startSequence_st_ne_wait P b.pg b.q
  · assumption

/-- Settles O38: the release, then the disarm effects, which find no generator waiting. -/
theorem executeEffects : Obligations.ExecuteEffects := by
  refine ⟨fun P b h => executeCommand_of_disarmed h P, fun P b h => ?_, exec_command rfl⟩
  rw [executeCommand_of_armed h, Block.disarmEffects_eq, if_neg (b.executeRelease_ne_wait P), Block.executeRelease_eq]
  rfl

/-! ### RESET (R198, R199) -/

/-- Settles O39, by whether the block is armed. -/
theorem resetEffects : Obligations.ResetEffects := by
  refine ⟨fun P b => ?_, exec_command rfl⟩
  rcases resetCommand_cases P b with ⟨ha, h⟩ | ⟨ha, h⟩ <;> rw [h]
  · rw [Block.disarmEffects_eq]
    simp [Block.resetRegisters, defaultCfg, ha]
  · simp [Block.resetRegisters, defaultCfg, ha]

/-! ### Failures (R206) -/

/-- The RESULT of each command (R260, R261). -/
theorem execBlock_result_cases {i : Instr} (hi : i.isCommand = true) (b : Block) :
    (i = .cmdArm ∧ (execBlock i b).result = armCheck Config.params b) ∨
    (i = .cmdExecute ∧ (execBlock i b).result = if b.armed = true then .ok else .errState) ∨
    ((i = .cmdDisarm ∨ i = .cmdReset ∨ i = .cmdPoll) ∧ (execBlock i b).result = .ok) ∨
    (∃ data, i = .cmdIllegal data) ∧ (execBlock i b).result = .errIllegal := by
  cases i
  case cmdArm => exact .inl ⟨rfl, armCommand_result _ b⟩
  case cmdExecute => exact .inr (.inl ⟨rfl, executeCommand_result _ b⟩)
  case cmdDisarm => exact .inr (.inr (.inl ⟨.inl rfl, rfl⟩))
  case cmdReset => exact .inr (.inr (.inl ⟨.inr (.inl rfl), rfl⟩))
  case cmdPoll => exact .inr (.inr (.inl ⟨.inr (.inr rfl), rfl⟩))
  case cmdIllegal data => exact .inr (.inr (.inr ⟨⟨data, rfl⟩, rfl⟩))
  all_goals cases hi

/-- A command that fails changes RESULT alone: every effect of a command ends with RESULT OK (R206). -/
theorem execBlock_of_failed {i : Instr} (hi : i.isCommand = true) {b : Block} (h : (execBlock i b).result ≠ .ok) :
    execBlock i b = b.withResult (execBlock i b).result := by
  cases execBlock_effect i b with
  | access _ _ hno => simp [hi] at hno
  | resultOnly r _ he => rw [he, Block.withResult_result]
  | arm _ _ he | disarm _ _ he | execute _ _ he | poll _ _ he | resetArmed _ _ he | resetDisarmed _ _ he =>
    exact absurd (by rw [he]; rfl) h

/-- Settles O42: the frame from the effects of a command, the reasons from its RESULT. -/
theorem failingCommandChangesOnlyResult : Obligations.FailingCommandChangesOnlyResult := by
  intro i s hi
  refine ⟨_, exec_command hi s, rfl, fun h => ?_, ?_⟩
  · simp only [State.respond_blk] at h ⊢
    rw [execBlock_of_failed hi h]
    rfl
  · simp only [State.respond_blk]
    have hclear : i = .cmdArm → (execBlock i s.blk).result = .ok →
        (execBlock i s.blk).fired = false ∧ (execBlock i s.blk).release = false := by
      rintro rfl
      exact armCommand_clears
    rcases execBlock_result_cases hi s.blk with ⟨rfl, h⟩ | ⟨rfl, h⟩ | ⟨rfl | rfl | rfl, h⟩ | ⟨⟨data, rfl⟩, h⟩
    · refine ⟨?_, ?_, ?_, ?_, hclear⟩ <;> rw [h]
      · simp [armCheck_eq_errState]
      · simp [armCheck_eq_errConfig]
      · simp [armCheck_eq_errResource]
      · simp [armCheck_ne_errIllegal]
    · refine ⟨?_, ?_, ?_, ?_, hclear⟩ <;> cases ha : s.blk.armed <;> simp [h, ha]
    all_goals simp [h]

end Sys2Proof.Machine

/-!
PROOF. The writes of the timing configuration, of OUTCTL and of FLAGS (43_register_access.md).
-/

namespace Sys2Proof.Machine

/-! ### Writes of the timing configuration (R221, R223, R225, R227) -/

/-- Settles O50: each of the four writes stores DATA whole in its own field. -/
theorem timingWrites : Obligations.TimingWrites :=
  fun _ s => ⟨exec_eq _ s, exec_eq _ s, exec_eq _ s, exec_eq _ s⟩

/-! ### Writes of OUTCTL and FLAGS (R237, R243) -/

/-- A new CFG leaves the source of the outputs: `active` is the generator's (R48). -/
@[simp] theorem Block.active_withCfg (b : Block) (c : Cfg) : ({ b with cfg := c } : Block).active = b.active := rfl

/-- The normal output after WR OUTCTL, by the value of DATA's bit 0 (R237, R299). -/
theorem outO_execBlock_wrOutctl (v : Word) (b : Block) :
    outO (execBlock (.wrOutctl v) b) = if v.toNat % 2 = 1 then .level b.active else .z := by
  simp only [outO, execBlock, Block.active_withCfg, writtenOutEn_eq_true]

/-- The inverted output after WR OUTCTL, by the value of DATA's bit 1 (R237, R299). -/
theorem outnO_execBlock_wrOutctl (v : Word) (b : Block) :
    outnO (execBlock (.wrOutctl v) b) = if v.toNat / 2 % 2 = 1 then .level (!b.active) else .z := by
  simp only [outnO, execBlock, Block.active_withCfg, writtenInvEn_eq_true]

/-- Settles O52: OUTCTL's write stores the two enables, which the output mux reads in the state it leaves; FLAGS' write
stores AUX alone. -/
theorem outctlAndFlagsWrites : Obligations.OutctlAndFlagsWrites :=
  fun v s =>
    ⟨⟨s.respond (execBlock (.wrOutctl v) s.blk) 0 false, exec_eq _ s, rfl, writtenOutEn_eq_true, writtenInvEn_eq_true,
      outO_execBlock_wrOutctl v s.blk, outnO_execBlock_wrOutctl v s.blk⟩,
     ⟨writtenAux v, exec_eq _ s, writtenAux_toNat v⟩⟩

end Sys2Proof.Machine

/-!
PROOF. The exceptions chapter (60_exceptions.md): the idle condition, what the host cannot see, and that a DISARM of a
waiting generator prevents every pulse.
-/

namespace Sys2Proof.Machine

/-! ### The idle condition (R272) -/

/-- A stopped generator's step is nothing, whatever RELEASE and Q hold (R168). -/
theorem pgStep_of_stopped {pg : Pg} (h : pg.st = .stopped) (P : Params) (release : Bool) (q : List Word) :
    pgStep P release pg q = (pg, q) := by
  simp [pgStep, h]

/-- A cycle in which no detector runs, RELEASE is clear and the generator is stopped has nothing to write (R172). -/
theorem hwStep_of_idle {P : Params} {inp : Inputs} {b : Block} (hgd : b.gd.st = .off) (hud : b.ud.st = .off)
    (hrel : b.release = false) (hst : b.pg.st = .stopped) : hwStep P inp b = b := by
  have hpg := pgStep_of_stopped hst P b.release b.q
  have hdet := detStep_of_off (P := P) (inp := inp) hgd hud
  have hrelease : nextRelease b.release (consumes b) false = b.release := by simp [nextRelease, hrel]
  simp [hwStep, hpg, hdet, hrelease, nextFired]

/-- Settles O24: by the invariant a disarmed block has RELEASE clear and both detectors off. -/
theorem idleBlockIsStill : Obligations.IdleBlockIsStill := by
  intro P inp b hinv harmed hst
  obtain ⟨hrel, hgd, hud, _⟩ := hinv.disarmed harmed
  exact hwStep_of_idle hgd hud hrel hst

/-! ### What the host cannot see (R271) -/

theorem Block.hostView_eq_iff {b b' : Block} : b.hostView = b'.hostView ↔
    b.cfg = b'.cfg ∧ b.armed = b'.armed ∧ b.fired = b'.fired ∧ b.q.length = b'.q.length ∧ b.resident = b'.resident ∧
      b.gcount = b'.gcount ∧ b.aux = b'.aux ∧ b.result = b'.result := by
  simp [hostView]

/-- RDATA is a function of the host's view: STATUS and FLAGS are put together from it, every other register is an
element of it (R220, R271). -/
theorem execRdata_congr {b b' : Block} (h : b.hostView = b'.hostView) (i : Instr) : execRdata i b = execRdata i b' := by
  obtain ⟨hcfg, harmed, hfired, hq, hresident, hgcount, haux, hresult⟩ := Block.hostView_eq_iff.mp h
  cases i
  case rdStatus => simp only [execRdata, statusWord, hresult, harmed, hfired, hq, hresident]
  case rdFlags => simp only [execRdata, flagsWord, haux, harmed]
  case rdGcount => exact hgcount
  case rdPause | rdWidth | rdGap | rdCount | rdTrigkind | rdTrigpin | rdTrigbyte | rdOutctl | rdUartdiv =>
    simp only [execRdata, hcfg]
  all_goals rfl

/-- Settles O57: the response holds the RDATA and ERR = 0. -/
theorem hiddenStateIsInvisible : Obligations.HiddenStateIsInvisible := by
  intro i s s' t t' _ hview ht ht'
  rw [exec_eq_next.mp ht, exec_eq_next.mp ht', State.respond_resp, State.respond_resp, execRdata_congr hview]

/-! ### DISARM of a waiting generator (R170, R265, R300) -/

/-- DISARM stops an armed generator that waits, whatever RELEASE holds (R170, R193). -/
theorem disarmCommand_stops_wait {b : Block} (harmed : b.armed = true) (hwait : b.pg.st = .wait) :
    (disarmCommand b).pg.st = .stopped := by
  rcases disarmCommand_cases b with ⟨_, h⟩ | ⟨hdis, _⟩
  · simp [h, hwait]
  · simp [harmed] at hdis

/-- An instruction takes nothing from the schedule. -/
theorem State.NoArm.exec {i : Instr} {s t : State} (hno : s.NoArm) (h : exec i s = .next t) : t.NoArm := by
  rw [exec_eq_next.mp h]
  exact hno

/-- A generator that is stopped is never active again in a run without ARM (R48, R168, R169). -/
theorem Reaches.inactive_of_stopped {k : Nat} {s t : State} (hno : s.NoArm) (hst : s.blk.pg.st = .stopped)
    (h : Reaches k s t) : t.blk.active = false := by
  obtain ⟨_, hkeep⟩ := atMostOneSequencePerArm s t k hno (by simp [hst]) h
  simp [Block.active, hkeep hst, hst]

/-- Settles O44: a waiting block is armed by the invariant, DISARM stops its generator, and no run without ARM starts
it again. -/
theorem disarmPreventsPulse : Obligations.DisarmPreventsPulse := by
  intro s t u k hno hinv hwait hdisarm hrun
  refine hrun.inactive_of_stopped (hno.exec hdisarm) ?_
  rw [exec_blk hdisarm]
  exact disarmCommand_stops_wait (hinv.waitArmed hwait) hwait

end Sys2Proof.Machine

/-!
PROOF. Reset and hazards (70_reset_and_hazards.md): RESET against power-on reset.
-/

namespace Sys2Proof.Machine

section ResetAgainstPowerOn

variable {P : Params} {b : Block}

/-- The queue is empty unless the generator waits (R63 item 1). -/
theorem Block.Inv.q_of_ne_wait (h : b.Inv P) (hst : b.pg.st ≠ .wait) : b.q = [] :=
  h.queueLength.resolve_right (mt h.queueFull.mp hst)

/-- A GPIO detector that is off is as power-on reset leaves it (R138). -/
theorem Block.Ranges.gd_of_off (h : b.Ranges P) (hoff : b.gd.st = .off) : b.gd = ⟨.off, 0⟩ := by
  rw [← hoff, ← h.offCleared.1 hoff]

/-- The disarm effects find nothing to do on a disarmed block (R63 item 4, R193). -/
theorem Block.disarmEffects_of_disarmed (hinv : b.Inv P) (hrange : b.Ranges P) (ha : b.armed = false) :
    b.disarmEffects = b := by
  obtain ⟨hrel, hgd, hud, hst⟩ := hinv.disarmed ha
  rw [disarmEffects_eq, if_neg hst, ← hinv.q_of_ne_wait hst, ← hrange.gd_of_off hgd, ← hrange.offCleared.2 hud]
  cases b
  cases ha
  cases hrel
  rfl

/-- Under the invariants RESET is the disarm effects and its registers, armed or not (R199, R291). -/
theorem resetCommand_eq (hinv : b.Inv P) (hrange : b.Ranges P) :
    resetCommand P b = b.disarmEffects.resetRegisters P := by
  rcases resetCommand_cases P b with ⟨_, h⟩ | ⟨ha, h⟩
  · exact h
  · rw [h, Block.disarmEffects_of_disarmed hinv hrange ha]

/-- A generator with no sequence under way waits or is stopped (R189). -/
theorem Block.wait_or_stopped_of_not_firing (h : ¬b.Firing) : b.pg.st = .wait ∨ b.pg.st = .stopped := by
  unfold Block.Firing at h
  cases hst : b.pg.st <;> simp [hst] at h ⊢

/-- The disarm effects let a running sequence go on (R193, R295). -/
theorem Block.Firing.disarmEffects_pg (h : b.Firing) : b.disarmEffects.pg = b.pg := by
  rw [Block.disarmEffects_eq]
  exact if_neg h.ne_wait

/-- The disarm effects leave a generator that is not running stopped, with its lengths kept (R193, R291). -/
theorem Block.disarmEffects_pg_of_not_firing (h : ¬b.Firing) : b.disarmEffects.pg = { b.pg with st := .stopped } := by
  rw [disarmEffects_eq]
  rcases wait_or_stopped_of_not_firing h with hwait | hstopped
  · exact if_pos hwait
  · simp [← hstopped]

end ResetAgainstPowerOn

/-- Settles O40: under the invariants RESET always takes the disarm effects, which with its registers leave of the old
block RESIDENT, LAT and PG alone. -/
theorem resetAgainstPowerOn : Obligations.ResetAgainstPowerOn := by
  intro P b hinv hrange
  simp only [resetCommand_eq hinv hrange]
  have hall : b.disarmEffects.resetRegisters P =
      { Block.reset P with resident := b.resident, lat := b.lat, pg := b.disarmEffects.pg } := by
    rw [Block.disarmEffects_eq]
    rfl
  exact ⟨hall, Block.Firing.disarmEffects_pg, Block.disarmEffects_pg_of_not_firing⟩

end Sys2Proof.Machine
